-- ==== Sys2Proof/Word.lean ====
section
/-! DEFINITION. The word types of the VE: 00_scope.md R11 (binary32 values), R14 (u8, u32), 20_memory.md R70 (9-bit offsets). -/

namespace Sys2Proof

/-- `u8` of R14: notes, tracker slots, query argument. -/
abbrev U8 := BitVec 8

/-- `u32` of R14: register words, event words, milliseconds, counters. -/
abbrev U32 := BitVec 32

/-- An f32 value of R11, held as its IEEE 754 binary32 bit pattern (R17, R102: every pattern can be stored and read
back), so that two equal values are equal data. The arithmetic is in Machine/Float.lean. -/
abbrev F32 := BitVec 32

/-- A byte offset into the register window: 0x000 to 0x1FF (R70). -/
abbrev Offset := BitVec 9

end Sys2Proof
end

