-- ==== Sys2Proof/Syntax.lean ====
section
/-! DEFINITION. The syntax of the VE: the configuration records its operands carry (10_state.md R32), the frames its port
takes (30_encoding.md R90), and the instructions, one constructor for each row of spec/opcode_table.json. -/

namespace Sys2Proof

/-- The fields `arp.*` of SynthConfig (R32). -/
structure ArpCfg where
  en : Bool
  bpm : U32
  div : U32
  deriving DecidableEq, Repr

/-- The fields `osc[i].*` of SynthConfig (R32); `wave` is coded by R113. -/
structure OscCfg where
  en : Bool
  wave : BitVec 2
  fmult : F32
  gain : F32
  deriving DecidableEq, Repr

/-- The fields `env.*` of SynthConfig (R32): seconds, and the sustain level. -/
structure EnvCfg where
  attack : F32
  decay : F32
  sustain : F32
  release : F32
  deriving DecidableEq, Repr

/-- The fields `boost.*` of SynthConfig (R32). -/
structure BoostCfg where
  pre : F32
  post : F32
  deriving DecidableEq, Repr

/-- The fields `filt.*` of SynthConfig (R32). -/
structure FiltCfg where
  en : Bool
  contourEn : Bool
  cutoff : F32
  res : F32
  contour : F32
  deriving DecidableEq, Repr

/-- SynthConfig (R32), "exchanged wholesale between tasks" (R31). -/
structure SynthConfig where
  arp : ArpCfg
  osc : Vector OscCfg 3
  env : EnvCfg
  boost : BoostCfg
  filt : FiltCfg
  deriving DecidableEq, Repr

/-- A host access as it reaches the port (R71): `MemRead(addr, size)` or `MemWrite(addr, size, v)`, of any size. Log 18. -/
inductive HostAccess where
  | read (addr : Offset) (size : Nat)
  | write (addr : Offset) (size : Nat) (v : U32)
  deriving DecidableEq, Repr

/-- What reaches one of the VE's ports; "A decoder tells the format by port" (R90). Log 1, log 2.
* `access`: a host access of the register window (REG32; EVT32 when it writes EVT_PUSH);
* `tick`: the tick input (TICK), carrying `now_ms`;
* `event`: an EVT32 word as the drain hands it to the event decoder (R243);
* `wave`: an OSCi_CTRL word and a phase as an oscillator hands them to the waveform table (R172). -/
inductive Frame where
  | access (a : HostAccess)
  | tick (now : U32)
  | event (w : U32)
  | wave (ctrl : U32) (p : F32)
  deriving DecidableEq, Repr

/-- The instructions: one constructor for each row of spec/opcode_table.json, in the table's order. -/
inductive Instr where
  /-- EVT32 note-off (R92); `x15`, `x23`, `b3` are the ignored bits 15, 23 and 31:24 (R91). -/
  | noteOff (chan : BitVec 4) (pitch : BitVec 7) (x15 : Bool) (vel : BitVec 7) (x23 : Bool) (b3 : U8)
  /-- EVT32 note-on of velocity 0, which acts as a note-off (R92). -/
  | noteOnVel0 (chan : BitVec 4) (pitch : BitVec 7) (x15 : Bool) (x23 : Bool) (b3 : U8)
  /-- EVT32 note-on of a velocity other than 0 (R92). -/
  | noteOn (chan : BitVec 4) (pitch : BitVec 7) (x15 : Bool) (vel : BitVec 7) (x23 : Bool) (b3 : U8)
  /-- EVT32 word of any other status nibble (R92, R94). -/
  | evtIgnore (chan : BitVec 4) (status : BitVec 4) (pitch : BitVec 7) (x15 : Bool) (vel : BitVec 7) (x23 : Bool) (b3 : U8)
  /-- write of CFG_STAGE[0], offset 0x000 (R252). -/
  | wrCfgStageArpCtrl (v : U32)
  /-- read of CFG_STAGE[0], offset 0x000 (R253). -/
  | rdCfgStageArpCtrl
  /-- write of CFG_STAGE[1], offset 0x004 (R252). -/
  | wrCfgStageArpBpm (v : U32)
  /-- read of CFG_STAGE[1], offset 0x004 (R253). -/
  | rdCfgStageArpBpm
  /-- write of CFG_STAGE[2], offset 0x008 (R252). -/
  | wrCfgStageArpDiv (v : U32)
  /-- read of CFG_STAGE[2], offset 0x008 (R253). -/
  | rdCfgStageArpDiv
  /-- write of CFG_STAGE[3], offset 0x00C (R252). -/
  | wrCfgStageOsc0Ctrl (v : U32)
  /-- read of CFG_STAGE[3], offset 0x00C (R253). -/
  | rdCfgStageOsc0Ctrl
  /-- write of CFG_STAGE[4], offset 0x010 (R252). -/
  | wrCfgStageOsc0Fmult (v : U32)
  /-- read of CFG_STAGE[4], offset 0x010 (R253). -/
  | rdCfgStageOsc0Fmult
  /-- write of CFG_STAGE[5], offset 0x014 (R252). -/
  | wrCfgStageOsc0Gain (v : U32)
  /-- read of CFG_STAGE[5], offset 0x014 (R253). -/
  | rdCfgStageOsc0Gain
  /-- write of CFG_STAGE[6], offset 0x018 (R252). -/
  | wrCfgStageOsc1Ctrl (v : U32)
  /-- read of CFG_STAGE[6], offset 0x018 (R253). -/
  | rdCfgStageOsc1Ctrl
  /-- write of CFG_STAGE[7], offset 0x01C (R252). -/
  | wrCfgStageOsc1Fmult (v : U32)
  /-- read of CFG_STAGE[7], offset 0x01C (R253). -/
  | rdCfgStageOsc1Fmult
  /-- write of CFG_STAGE[8], offset 0x020 (R252). -/
  | wrCfgStageOsc1Gain (v : U32)
  /-- read of CFG_STAGE[8], offset 0x020 (R253). -/
  | rdCfgStageOsc1Gain
  /-- write of CFG_STAGE[9], offset 0x024 (R252). -/
  | wrCfgStageOsc2Ctrl (v : U32)
  /-- read of CFG_STAGE[9], offset 0x024 (R253). -/
  | rdCfgStageOsc2Ctrl
  /-- write of CFG_STAGE[10], offset 0x028 (R252). -/
  | wrCfgStageOsc2Fmult (v : U32)
  /-- read of CFG_STAGE[10], offset 0x028 (R253). -/
  | rdCfgStageOsc2Fmult
  /-- write of CFG_STAGE[11], offset 0x02C (R252). -/
  | wrCfgStageOsc2Gain (v : U32)
  /-- read of CFG_STAGE[11], offset 0x02C (R253). -/
  | rdCfgStageOsc2Gain
  /-- write of CFG_STAGE[12], offset 0x030 (R252). -/
  | wrCfgStageEnvAttack (v : U32)
  /-- read of CFG_STAGE[12], offset 0x030 (R253). -/
  | rdCfgStageEnvAttack
  /-- write of CFG_STAGE[13], offset 0x034 (R252). -/
  | wrCfgStageEnvDecay (v : U32)
  /-- read of CFG_STAGE[13], offset 0x034 (R253). -/
  | rdCfgStageEnvDecay
  /-- write of CFG_STAGE[14], offset 0x038 (R252). -/
  | wrCfgStageEnvSustain (v : U32)
  /-- read of CFG_STAGE[14], offset 0x038 (R253). -/
  | rdCfgStageEnvSustain
  /-- write of CFG_STAGE[15], offset 0x03C (R252). -/
  | wrCfgStageEnvRelease (v : U32)
  /-- read of CFG_STAGE[15], offset 0x03C (R253). -/
  | rdCfgStageEnvRelease
  /-- write of CFG_STAGE[16], offset 0x040 (R252). -/
  | wrCfgStageBoostPre (v : U32)
  /-- read of CFG_STAGE[16], offset 0x040 (R253). -/
  | rdCfgStageBoostPre
  /-- write of CFG_STAGE[17], offset 0x044 (R252). -/
  | wrCfgStageBoostPost (v : U32)
  /-- read of CFG_STAGE[17], offset 0x044 (R253). -/
  | rdCfgStageBoostPost
  /-- write of CFG_STAGE[18], offset 0x048 (R252). -/
  | wrCfgStageFiltCtrl (v : U32)
  /-- read of CFG_STAGE[18], offset 0x048 (R253). -/
  | rdCfgStageFiltCtrl
  /-- write of CFG_STAGE[19], offset 0x04C (R252). -/
  | wrCfgStageFiltCutoff (v : U32)
  /-- read of CFG_STAGE[19], offset 0x04C (R253). -/
  | rdCfgStageFiltCutoff
  /-- write of CFG_STAGE[20], offset 0x050 (R252). -/
  | wrCfgStageFiltRes (v : U32)
  /-- read of CFG_STAGE[20], offset 0x050 (R253). -/
  | rdCfgStageFiltRes
  /-- write of CFG_STAGE[21], offset 0x054 (R252). -/
  | wrCfgStageFiltContour (v : U32)
  /-- read of CFG_STAGE[21], offset 0x054 (R253). -/
  | rdCfgStageFiltContour
  /-- read of CFG_ACTIVE[0], offset 0x100 (R253). -/
  | rdCfgActiveArpCtrl
  /-- write of read-only CFG_ACTIVE_ARP_CTRL, offset 0x100 (R73). -/
  | wrCfgActiveArpCtrl (v : U32)
  /-- read of CFG_ACTIVE[1], offset 0x104 (R253). -/
  | rdCfgActiveArpBpm
  /-- write of read-only CFG_ACTIVE_ARP_BPM, offset 0x104 (R73). -/
  | wrCfgActiveArpBpm (v : U32)
  /-- read of CFG_ACTIVE[2], offset 0x108 (R253). -/
  | rdCfgActiveArpDiv
  /-- write of read-only CFG_ACTIVE_ARP_DIV, offset 0x108 (R73). -/
  | wrCfgActiveArpDiv (v : U32)
  /-- read of CFG_ACTIVE[3], offset 0x10C (R253). -/
  | rdCfgActiveOsc0Ctrl
  /-- write of read-only CFG_ACTIVE_OSC0_CTRL, offset 0x10C (R73). -/
  | wrCfgActiveOsc0Ctrl (v : U32)
  /-- read of CFG_ACTIVE[4], offset 0x110 (R253). -/
  | rdCfgActiveOsc0Fmult
  /-- write of read-only CFG_ACTIVE_OSC0_FMULT, offset 0x110 (R73). -/
  | wrCfgActiveOsc0Fmult (v : U32)
  /-- read of CFG_ACTIVE[5], offset 0x114 (R253). -/
  | rdCfgActiveOsc0Gain
  /-- write of read-only CFG_ACTIVE_OSC0_GAIN, offset 0x114 (R73). -/
  | wrCfgActiveOsc0Gain (v : U32)
  /-- read of CFG_ACTIVE[6], offset 0x118 (R253). -/
  | rdCfgActiveOsc1Ctrl
  /-- write of read-only CFG_ACTIVE_OSC1_CTRL, offset 0x118 (R73). -/
  | wrCfgActiveOsc1Ctrl (v : U32)
  /-- read of CFG_ACTIVE[7], offset 0x11C (R253). -/
  | rdCfgActiveOsc1Fmult
  /-- write of read-only CFG_ACTIVE_OSC1_FMULT, offset 0x11C (R73). -/
  | wrCfgActiveOsc1Fmult (v : U32)
  /-- read of CFG_ACTIVE[8], offset 0x120 (R253). -/
  | rdCfgActiveOsc1Gain
  /-- write of read-only CFG_ACTIVE_OSC1_GAIN, offset 0x120 (R73). -/
  | wrCfgActiveOsc1Gain (v : U32)
  /-- read of CFG_ACTIVE[9], offset 0x124 (R253). -/
  | rdCfgActiveOsc2Ctrl
  /-- write of read-only CFG_ACTIVE_OSC2_CTRL, offset 0x124 (R73). -/
  | wrCfgActiveOsc2Ctrl (v : U32)
  /-- read of CFG_ACTIVE[10], offset 0x128 (R253). -/
  | rdCfgActiveOsc2Fmult
  /-- write of read-only CFG_ACTIVE_OSC2_FMULT, offset 0x128 (R73). -/
  | wrCfgActiveOsc2Fmult (v : U32)
  /-- read of CFG_ACTIVE[11], offset 0x12C (R253). -/
  | rdCfgActiveOsc2Gain
  /-- write of read-only CFG_ACTIVE_OSC2_GAIN, offset 0x12C (R73). -/
  | wrCfgActiveOsc2Gain (v : U32)
  /-- read of CFG_ACTIVE[12], offset 0x130 (R253). -/
  | rdCfgActiveEnvAttack
  /-- write of read-only CFG_ACTIVE_ENV_ATTACK, offset 0x130 (R73). -/
  | wrCfgActiveEnvAttack (v : U32)
  /-- read of CFG_ACTIVE[13], offset 0x134 (R253). -/
  | rdCfgActiveEnvDecay
  /-- write of read-only CFG_ACTIVE_ENV_DECAY, offset 0x134 (R73). -/
  | wrCfgActiveEnvDecay (v : U32)
  /-- read of CFG_ACTIVE[14], offset 0x138 (R253). -/
  | rdCfgActiveEnvSustain
  /-- write of read-only CFG_ACTIVE_ENV_SUSTAIN, offset 0x138 (R73). -/
  | wrCfgActiveEnvSustain (v : U32)
  /-- read of CFG_ACTIVE[15], offset 0x13C (R253). -/
  | rdCfgActiveEnvRelease
  /-- write of read-only CFG_ACTIVE_ENV_RELEASE, offset 0x13C (R73). -/
  | wrCfgActiveEnvRelease (v : U32)
  /-- read of CFG_ACTIVE[16], offset 0x140 (R253). -/
  | rdCfgActiveBoostPre
  /-- write of read-only CFG_ACTIVE_BOOST_PRE, offset 0x140 (R73). -/
  | wrCfgActiveBoostPre (v : U32)
  /-- read of CFG_ACTIVE[17], offset 0x144 (R253). -/
  | rdCfgActiveBoostPost
  /-- write of read-only CFG_ACTIVE_BOOST_POST, offset 0x144 (R73). -/
  | wrCfgActiveBoostPost (v : U32)
  /-- read of CFG_ACTIVE[18], offset 0x148 (R253). -/
  | rdCfgActiveFiltCtrl
  /-- write of read-only CFG_ACTIVE_FILT_CTRL, offset 0x148 (R73). -/
  | wrCfgActiveFiltCtrl (v : U32)
  /-- read of CFG_ACTIVE[19], offset 0x14C (R253). -/
  | rdCfgActiveFiltCutoff
  /-- write of read-only CFG_ACTIVE_FILT_CUTOFF, offset 0x14C (R73). -/
  | wrCfgActiveFiltCutoff (v : U32)
  /-- read of CFG_ACTIVE[20], offset 0x150 (R253). -/
  | rdCfgActiveFiltRes
  /-- write of read-only CFG_ACTIVE_FILT_RES, offset 0x150 (R73). -/
  | wrCfgActiveFiltRes (v : U32)
  /-- read of CFG_ACTIVE[21], offset 0x154 (R253). -/
  | rdCfgActiveFiltContour
  /-- write of read-only CFG_ACTIVE_FILT_CONTOUR, offset 0x154 (R73). -/
  | wrCfgActiveFiltContour (v : U32)
  /-- write of CFG_COMMIT, offset 0x080 (R254). -/
  | wrCfgCommit (v : U32)
  /-- read of write-only CFG_COMMIT, offset 0x080 (R73). -/
  | rdCfgCommit
  /-- read of MBOX_STATUS, offset 0x084 (R255). -/
  | rdMboxStatus
  /-- write of read-only MBOX_STATUS, offset 0x084 (R73). -/
  | wrMboxStatus (v : U32)
  /-- write of EVT_PUSH, offset 0x088 (R256). -/
  | wrEvtPush (v : U32)
  /-- read of write-only EVT_PUSH, offset 0x088 (R73). -/
  | rdEvtPush
  /-- read of EVT_STATUS, offset 0x08C (R257). -/
  | rdEvtStatus
  /-- write of EVT_STATUS, offset 0x08C (R258). -/
  | wrEvtStatus (v : U32)
  /-- read of VOICE_STATUS, offset 0x090 (R259). -/
  | rdVoiceStatus
  /-- write of read-only VOICE_STATUS, offset 0x090 (R73). -/
  | wrVoiceStatus (v : U32)
  /-- read of ENV_VALUE, offset 0x094 (R259). -/
  | rdEnvValue
  /-- write of read-only ENV_VALUE, offset 0x094 (R73). -/
  | wrEnvValue (v : U32)
  /-- read of ARP_COUNTER, offset 0x098 (R259). -/
  | rdArpCounter
  /-- write of read-only ARP_COUNTER, offset 0x098 (R73). -/
  | wrArpCounter (v : U32)
  /-- read of ARP_LAST_MS, offset 0x09C (R259). -/
  | rdArpLastMs
  /-- write of read-only ARP_LAST_MS, offset 0x09C (R73). -/
  | wrArpLastMs (v : U32)
  /-- read of TRK_SLOTS0, offset 0x0A0 (R259). -/
  | rdTrkSlots0
  /-- write of read-only TRK_SLOTS0, offset 0x0A0 (R73). -/
  | wrTrkSlots0 (v : U32)
  /-- read of TRK_SLOTS1, offset 0x0A4 (R259). -/
  | rdTrkSlots1
  /-- write of read-only TRK_SLOTS1, offset 0x0A4 (R73). -/
  | wrTrkSlots1 (v : U32)
  /-- read of OSC_PHASE0, offset 0x0AC (R259). -/
  | rdOscPhase0
  /-- write of read-only OSC_PHASE0, offset 0x0AC (R73). -/
  | wrOscPhase0 (v : U32)
  /-- read of OSC_PHASE1, offset 0x0B0 (R259). -/
  | rdOscPhase1
  /-- write of read-only OSC_PHASE1, offset 0x0B0 (R73). -/
  | wrOscPhase1 (v : U32)
  /-- read of OSC_PHASE2, offset 0x0B4 (R259). -/
  | rdOscPhase2
  /-- write of read-only OSC_PHASE2, offset 0x0B4 (R73). -/
  | wrOscPhase2 (v : U32)
  /-- read of FILT_STATE, offset 0x0B8 (R259). -/
  | rdFiltState
  /-- write of read-only FILT_STATE, offset 0x0B8 (R73). -/
  | wrFiltState (v : U32)
  /-- read of FILT_FC, offset 0x0BC (R259). -/
  | rdFiltFc
  /-- write of read-only FILT_FC, offset 0x0BC (R73). -/
  | wrFiltFc (v : U32)
  /-- read of ENV_ARATE, offset 0x0C0 (R259). -/
  | rdEnvArate
  /-- write of read-only ENV_ARATE, offset 0x0C0 (R73). -/
  | wrEnvArate (v : U32)
  /-- read of ENV_DRATE, offset 0x0C4 (R259). -/
  | rdEnvDrate
  /-- write of read-only ENV_DRATE, offset 0x0C4 (R73). -/
  | wrEnvDrate (v : U32)
  /-- read of ENV_RRATE, offset 0x0C8 (R259). -/
  | rdEnvRrate
  /-- write of read-only ENV_RRATE, offset 0x0C8 (R73). -/
  | wrEnvRrate (v : U32)
  /-- read of ENV_SUS, offset 0x0CC (R259). -/
  | rdEnvSus
  /-- write of read-only ENV_SUS, offset 0x0CC (R73). -/
  | wrEnvSus (v : U32)
  /-- write of TRK_QUERY, offset 0x0A8 (R260). -/
  | wrTrkQuery (v : U32)
  /-- read of TRK_QUERY, offset 0x0A8 (R261). -/
  | rdTrkQuery
  /-- read of a reserved offset (R71, R75). -/
  | rdReserved (addr : Offset)
  /-- write of a reserved offset (R71, R75). -/
  | wrReserved (addr : Offset) (v : U32)
  /-- an access that is not an aligned 4-byte one (R71, R281). -/
  | busError (a : HostAccess)
  /-- the tick input with its time in milliseconds (R241). -/
  | tick (now : U32)
  /-- WAVE_SINE, selected by bits 2:1 of an OSCi_CTRL word, at phase `p` (R173). -/
  | waveSine (p : F32)
  /-- WAVE_SAW, selected by bits 2:1 of an OSCi_CTRL word, at phase `p` (R174). -/
  | waveSaw (p : F32)
  /-- WAVE_SQUARE, selected by bits 2:1 of an OSCi_CTRL word, at phase `p` (R175). -/
  | waveSquare (p : F32)
  /-- WAVE_TRIANGLE, selected by bits 2:1 of an OSCi_CTRL word, at phase `p` (R176). -/
  | waveTriangle (p : F32)
  /-- EVT_KIND, no host encoding; invoked by the tick (R92). -/
  | evtKind (w : U32)
  /-- TRK_PUSH, no host encoding; invoked by the tick (R131). -/
  | trkPush (note : U8)
  /-- TRK_MOST_RECENT, no host encoding; invoked by the tick (R132). -/
  | trkMostRecent
  /-- TRK_SMALLEST, no host encoding; invoked by the tick (R133). -/
  | trkSmallest
  /-- TRK_RIGHT_OF, no host encoding; invoked by the tick (R134). -/
  | trkRightOf (x : U8)
  /-- TRK_POP, no host encoding; invoked by the tick (R135). -/
  | trkPop (note : U8)
  /-- TRK_LENGTH, no host encoding; invoked by the tick (R136). -/
  | trkLength
  /-- TRK_AT, no host encoding; invoked by the tick (R137). -/
  | trkAt (i : Nat)
  /-- ARP_PERIOD, no host encoding; invoked by the tick (R150). -/
  | arpPeriod (a : ArpCfg)
  /-- ARP_STEP, no host encoding; invoked by the tick (R151). -/
  | arpStep (a : ArpCfg) (now : U32)
  /-- ARP_CLEAR, no host encoding; invoked by the tick (R152). -/
  | arpClear
  /-- ARP_INDEX, no host encoding; invoked by the tick (R153). -/
  | arpIndex
  /-- DT, no host encoding; invoked by the tick (R171). -/
  | dt (note : U8)
  /-- WAVE, no host encoding; invoked by the tick (R172). -/
  | wave (sel : BitVec 2) (p : F32)
  /-- OSC_STEP, no host encoding; invoked by the tick (R178). -/
  | oscStep (i : Fin 3) (dt : F32)
  /-- ENV_SET_RATES, no host encoding; invoked by the tick (R190). -/
  | envSetRates (e : EnvCfg)
  /-- ENV_STEP, no host encoding; invoked by the tick (R191). -/
  | envStep
  /-- ENV_STAGE_OFF, no host encoding; invoked by the tick (R192). -/
  | envStageOff
  /-- ENV_STAGE_ATTACK, no host encoding; invoked by the tick (R193). -/
  | envStageAttack
  /-- ENV_STAGE_DECAY, no host encoding; invoked by the tick (R194). -/
  | envStageDecay
  /-- ENV_STAGE_SUSTAIN, no host encoding; invoked by the tick (R195). -/
  | envStageSustain
  /-- ENV_STAGE_RELEASE, no host encoding; invoked by the tick (R196). -/
  | envStageRelease
  /-- ENV_TRIGGER_ON, no host encoding; invoked by the tick (R197). -/
  | envTriggerOn
  /-- ENV_TRIGGER_OFF, no host encoding; invoked by the tick (R198). -/
  | envTriggerOff
  /-- FILT_TARGET, no host encoding; invoked by the tick (R210). -/
  | filtTarget (c : FiltCfg) (e : F32)
  /-- FILT_SMOOTH, no host encoding; invoked by the tick (R211). -/
  | filtSmooth (t : F32)
  /-- FILT_K, no host encoding; invoked by the tick (R213). -/
  | filtK (c : FiltCfg)
  /-- FILT_SAMPLE, no host encoding; invoked by the tick (R214). -/
  | filtSample (x : F32) (e : F32)
  /-- SAT_HARD, no host encoding; invoked by the tick (R230). -/
  | satHard (x : F32)
  /-- SAT_SOFT, no host encoding; invoked by the tick (R231). -/
  | satSoft (x : F32)
  /-- BOOST_CHAIN, no host encoding; invoked by the tick (R232). -/
  | boostChain (x : F32)
  /-- ADOPT, no host encoding; invoked by the tick (R242). -/
  | adopt
  /-- DRAIN, no host encoding; invoked by the tick (R243). -/
  | drain
  /-- EMPTY_VOICE, no host encoding; invoked by the tick (R245). -/
  | emptyVoice
  /-- SELECT_NOTE, no host encoding; invoked by the tick (R246). -/
  | selectNote (now : U32)
  /-- RETRIGGER, no host encoding; invoked by the tick (R247). -/
  | retrigger (n : U8)
  /-- SET_RATES_STEP, no host encoding; invoked by the tick (R248). -/
  | setRatesStep
  /-- SAMPLE, no host encoding; invoked by the tick (R250). -/
  | sample (dt : F32)
  /-- EMIT, no host encoding; invoked by the tick (R251). -/
  | emit (x : F32)
  deriving DecidableEq, Repr

end Sys2Proof
end

