-- ==== Sys2Proof/WellFormed.lean ====
section
/-! DEFINITION. Which operands of an instruction the spec admits. -/

namespace Sys2Proof

/-- An aligned 4-byte access: the only legal ones (R71). -/
def HostAccess.isLegal : HostAccess → Bool
  | .read addr size => decide (size = 4) && decide (addr.toNat % 4 = 0)
  | .write addr size _ => decide (size = 4) && decide (addr.toNat % 4 = 0)

/-- The aligned offsets that R75 marks reserved: 0x058 to 0x07C, 0x0D0 to 0x0FC, 0x158 to 0x1FC. -/
def reservedOffset (addr : Offset) : Bool :=
  let a := addr.toNat
  decide (a % 4 = 0) &&
    (decide (0x058 ≤ a ∧ a ≤ 0x07C) || decide (0x0D0 ≤ a ∧ a ≤ 0x0FC) || decide (0x158 ≤ a ∧ a ≤ 0x1FC))

/-- `+0.0 <= p < 1.0`, never -0.0 (R172, R42): on bit patterns, those below that of 1.0. -/
def inPhaseRange (p : F32) : Bool := decide (p.toNat < 0x3F800000)

/-- The operands the spec admits, instruction by instruction. -/
def Instr.wellFormed (i : Instr) : Bool :=
  match i with
  | .noteOff _ _ _ _ _ _ => true
  | .noteOnVel0 _ _ _ _ _ => true
  | .noteOn _ _ _ vel _ _ => decide (vel ≠ 0)
  | .evtIgnore _ status _ _ _ _ _ => decide (status ≠ 8) && decide (status ≠ 9)
  | .wrCfgStageArpCtrl _ => true
  | .rdCfgStageArpCtrl => true
  | .wrCfgStageArpBpm _ => true
  | .rdCfgStageArpBpm => true
  | .wrCfgStageArpDiv _ => true
  | .rdCfgStageArpDiv => true
  | .wrCfgStageOsc0Ctrl _ => true
  | .rdCfgStageOsc0Ctrl => true
  | .wrCfgStageOsc0Fmult _ => true
  | .rdCfgStageOsc0Fmult => true
  | .wrCfgStageOsc0Gain _ => true
  | .rdCfgStageOsc0Gain => true
  | .wrCfgStageOsc1Ctrl _ => true
  | .rdCfgStageOsc1Ctrl => true
  | .wrCfgStageOsc1Fmult _ => true
  | .rdCfgStageOsc1Fmult => true
  | .wrCfgStageOsc1Gain _ => true
  | .rdCfgStageOsc1Gain => true
  | .wrCfgStageOsc2Ctrl _ => true
  | .rdCfgStageOsc2Ctrl => true
  | .wrCfgStageOsc2Fmult _ => true
  | .rdCfgStageOsc2Fmult => true
  | .wrCfgStageOsc2Gain _ => true
  | .rdCfgStageOsc2Gain => true
  | .wrCfgStageEnvAttack _ => true
  | .rdCfgStageEnvAttack => true
  | .wrCfgStageEnvDecay _ => true
  | .rdCfgStageEnvDecay => true
  | .wrCfgStageEnvSustain _ => true
  | .rdCfgStageEnvSustain => true
  | .wrCfgStageEnvRelease _ => true
  | .rdCfgStageEnvRelease => true
  | .wrCfgStageBoostPre _ => true
  | .rdCfgStageBoostPre => true
  | .wrCfgStageBoostPost _ => true
  | .rdCfgStageBoostPost => true
  | .wrCfgStageFiltCtrl _ => true
  | .rdCfgStageFiltCtrl => true
  | .wrCfgStageFiltCutoff _ => true
  | .rdCfgStageFiltCutoff => true
  | .wrCfgStageFiltRes _ => true
  | .rdCfgStageFiltRes => true
  | .wrCfgStageFiltContour _ => true
  | .rdCfgStageFiltContour => true
  | .rdCfgActiveArpCtrl => true
  | .wrCfgActiveArpCtrl _ => true
  | .rdCfgActiveArpBpm => true
  | .wrCfgActiveArpBpm _ => true
  | .rdCfgActiveArpDiv => true
  | .wrCfgActiveArpDiv _ => true
  | .rdCfgActiveOsc0Ctrl => true
  | .wrCfgActiveOsc0Ctrl _ => true
  | .rdCfgActiveOsc0Fmult => true
  | .wrCfgActiveOsc0Fmult _ => true
  | .rdCfgActiveOsc0Gain => true
  | .wrCfgActiveOsc0Gain _ => true
  | .rdCfgActiveOsc1Ctrl => true
  | .wrCfgActiveOsc1Ctrl _ => true
  | .rdCfgActiveOsc1Fmult => true
  | .wrCfgActiveOsc1Fmult _ => true
  | .rdCfgActiveOsc1Gain => true
  | .wrCfgActiveOsc1Gain _ => true
  | .rdCfgActiveOsc2Ctrl => true
  | .wrCfgActiveOsc2Ctrl _ => true
  | .rdCfgActiveOsc2Fmult => true
  | .wrCfgActiveOsc2Fmult _ => true
  | .rdCfgActiveOsc2Gain => true
  | .wrCfgActiveOsc2Gain _ => true
  | .rdCfgActiveEnvAttack => true
  | .wrCfgActiveEnvAttack _ => true
  | .rdCfgActiveEnvDecay => true
  | .wrCfgActiveEnvDecay _ => true
  | .rdCfgActiveEnvSustain => true
  | .wrCfgActiveEnvSustain _ => true
  | .rdCfgActiveEnvRelease => true
  | .wrCfgActiveEnvRelease _ => true
  | .rdCfgActiveBoostPre => true
  | .wrCfgActiveBoostPre _ => true
  | .rdCfgActiveBoostPost => true
  | .wrCfgActiveBoostPost _ => true
  | .rdCfgActiveFiltCtrl => true
  | .wrCfgActiveFiltCtrl _ => true
  | .rdCfgActiveFiltCutoff => true
  | .wrCfgActiveFiltCutoff _ => true
  | .rdCfgActiveFiltRes => true
  | .wrCfgActiveFiltRes _ => true
  | .rdCfgActiveFiltContour => true
  | .wrCfgActiveFiltContour _ => true
  | .wrCfgCommit _ => true
  | .rdCfgCommit => true
  | .rdMboxStatus => true
  | .wrMboxStatus _ => true
  | .wrEvtPush _ => true
  | .rdEvtPush => true
  | .rdEvtStatus => true
  | .wrEvtStatus _ => true
  | .rdVoiceStatus => true
  | .wrVoiceStatus _ => true
  | .rdEnvValue => true
  | .wrEnvValue _ => true
  | .rdArpCounter => true
  | .wrArpCounter _ => true
  | .rdArpLastMs => true
  | .wrArpLastMs _ => true
  | .rdTrkSlots0 => true
  | .wrTrkSlots0 _ => true
  | .rdTrkSlots1 => true
  | .wrTrkSlots1 _ => true
  | .rdOscPhase0 => true
  | .wrOscPhase0 _ => true
  | .rdOscPhase1 => true
  | .wrOscPhase1 _ => true
  | .rdOscPhase2 => true
  | .wrOscPhase2 _ => true
  | .rdFiltState => true
  | .wrFiltState _ => true
  | .rdFiltFc => true
  | .wrFiltFc _ => true
  | .rdEnvArate => true
  | .wrEnvArate _ => true
  | .rdEnvDrate => true
  | .wrEnvDrate _ => true
  | .rdEnvRrate => true
  | .wrEnvRrate _ => true
  | .rdEnvSus => true
  | .wrEnvSus _ => true
  | .wrTrkQuery _ => true
  | .rdTrkQuery => true
  | .rdReserved addr => reservedOffset addr
  | .wrReserved addr _ => reservedOffset addr
  | .busError a => !a.isLegal
  | .tick _ => true
  | .waveSine p => inPhaseRange p
  | .waveSaw p => inPhaseRange p
  | .waveSquare p => inPhaseRange p
  | .waveTriangle p => inPhaseRange p
  | .evtKind _ => true
  | .trkPush _ => true
  | .trkMostRecent => true
  | .trkSmallest => true
  | .trkRightOf _ => true
  | .trkPop _ => true
  | .trkLength => true
  | .trkAt i => decide (i < 5)
  | .arpPeriod _ => true
  | .arpStep _ _ => true
  | .arpClear => true
  | .arpIndex => true
  | .dt note => decide (note.toNat < 128) || decide (note = 255)
  | .wave _ p => inPhaseRange p
  | .oscStep _ _ => true
  | .envSetRates _ => true
  | .envStep => true
  | .envStageOff => true
  | .envStageAttack => true
  | .envStageDecay => true
  | .envStageSustain => true
  | .envStageRelease => true
  | .envTriggerOn => true
  | .envTriggerOff => true
  | .filtTarget _ _ => true
  | .filtSmooth _ => true
  | .filtK _ => true
  | .filtSample _ _ => true
  | .satHard _ => true
  | .satSoft _ => true
  | .boostChain _ => true
  | .adopt => true
  | .drain => true
  | .emptyVoice => true
  | .selectNote _ => true
  | .retrigger _ => true
  | .setRatesStep => true
  | .sample _ => true
  | .emit _ => true

end Sys2Proof
end

