-- ==== Sys2Proof/Decode.lean ====
section
/-! DEFINITION. The decoder and the encoder: 30_encoding.md R91 to R94 (EVT32), 20_memory.md R71 and R75 (the register
window), R90 (TICK), R113 (the waveform selector). Every frame decodes: R94, R113 and R114 leave no word and no access
without an instruction. -/

namespace Sys2Proof

/-! ## EVT32 (R91 to R93) -/

/-- CHAN, bits 3:0 (R91). -/
def evtChan (w : U32) : BitVec 4 := w.extractLsb' 0 4
/-- STATUS, bits 7:4 (R91). -/
def evtStatus (w : U32) : BitVec 4 := w.extractLsb' 4 4
/-- PITCH, bits 14:8 (R91). -/
def evtPitch (w : U32) : BitVec 7 := w.extractLsb' 8 7
/-- VEL, bits 22:16 (R91). -/
def evtVel (w : U32) : BitVec 7 := w.extractLsb' 16 7
/-- Byte 3, bits 31:24, ignored (R91). -/
def evtByte3 (w : U32) : U8 := w.extractLsb' 24 8

/-- An EVT32 word put together from its fields (R91). -/
def evtWord (chan status : BitVec 4) (pitch : BitVec 7) (x15 : Bool) (vel : BitVec 7) (x23 : Bool) (b3 : U8) : U32 :=
  b3 ++ BitVec.ofBool x23 ++ vel ++ BitVec.ofBool x15 ++ pitch ++ status ++ chan

/-- The instruction of an EVT32 word, in the priority order of R92; every word has one (R94). -/
def decodeEvent (w : U32) : Instr :=
  if evtStatus w = 8 then .noteOff (evtChan w) (evtPitch w) (w.getLsbD 15) (evtVel w) (w.getLsbD 23) (evtByte3 w)
  else if evtStatus w = 9 then
    if evtVel w = 0 then .noteOnVel0 (evtChan w) (evtPitch w) (w.getLsbD 15) (w.getLsbD 23) (evtByte3 w)
    else .noteOn (evtChan w) (evtPitch w) (w.getLsbD 15) (evtVel w) (w.getLsbD 23) (evtByte3 w)
  else .evtIgnore (evtChan w) (evtStatus w) (evtPitch w) (w.getLsbD 15) (evtVel w) (w.getLsbD 23) (evtByte3 w)

/-! ## REG32 (R71, R75) -/

/-- The mapped offsets and what a read of each is (R75), part 0. -/
def readTable0 : List (Offset × Instr) :=
  [(0x000, .rdCfgStageArpCtrl),
   (0x004, .rdCfgStageArpBpm),
   (0x008, .rdCfgStageArpDiv),
   (0x00C, .rdCfgStageOsc0Ctrl),
   (0x010, .rdCfgStageOsc0Fmult),
   (0x014, .rdCfgStageOsc0Gain),
   (0x018, .rdCfgStageOsc1Ctrl),
   (0x01C, .rdCfgStageOsc1Fmult),
   (0x020, .rdCfgStageOsc1Gain),
   (0x024, .rdCfgStageOsc2Ctrl),
   (0x028, .rdCfgStageOsc2Fmult),
   (0x02C, .rdCfgStageOsc2Gain),
   (0x030, .rdCfgStageEnvAttack),
   (0x034, .rdCfgStageEnvDecay),
   (0x038, .rdCfgStageEnvSustain),
   (0x03C, .rdCfgStageEnvRelease),
   (0x040, .rdCfgStageBoostPre),
   (0x044, .rdCfgStageBoostPost),
   (0x048, .rdCfgStageFiltCtrl),
   (0x04C, .rdCfgStageFiltCutoff),
   (0x050, .rdCfgStageFiltRes),
   (0x054, .rdCfgStageFiltContour)]

/-- The mapped offsets and what a read of each is (R75), part 1. -/
def readTable1 : List (Offset × Instr) :=
  [(0x080, .rdCfgCommit),
   (0x084, .rdMboxStatus),
   (0x088, .rdEvtPush),
   (0x08C, .rdEvtStatus),
   (0x090, .rdVoiceStatus),
   (0x094, .rdEnvValue),
   (0x098, .rdArpCounter),
   (0x09C, .rdArpLastMs),
   (0x0A0, .rdTrkSlots0),
   (0x0A4, .rdTrkSlots1),
   (0x0A8, .rdTrkQuery),
   (0x0AC, .rdOscPhase0),
   (0x0B0, .rdOscPhase1),
   (0x0B4, .rdOscPhase2),
   (0x0B8, .rdFiltState),
   (0x0BC, .rdFiltFc),
   (0x0C0, .rdEnvArate),
   (0x0C4, .rdEnvDrate),
   (0x0C8, .rdEnvRrate),
   (0x0CC, .rdEnvSus),
   (0x100, .rdCfgActiveArpCtrl),
   (0x104, .rdCfgActiveArpBpm)]

/-- The mapped offsets and what a read of each is (R75), part 2. -/
def readTable2 : List (Offset × Instr) :=
  [(0x108, .rdCfgActiveArpDiv),
   (0x10C, .rdCfgActiveOsc0Ctrl),
   (0x110, .rdCfgActiveOsc0Fmult),
   (0x114, .rdCfgActiveOsc0Gain),
   (0x118, .rdCfgActiveOsc1Ctrl),
   (0x11C, .rdCfgActiveOsc1Fmult),
   (0x120, .rdCfgActiveOsc1Gain),
   (0x124, .rdCfgActiveOsc2Ctrl),
   (0x128, .rdCfgActiveOsc2Fmult),
   (0x12C, .rdCfgActiveOsc2Gain),
   (0x130, .rdCfgActiveEnvAttack),
   (0x134, .rdCfgActiveEnvDecay),
   (0x138, .rdCfgActiveEnvSustain),
   (0x13C, .rdCfgActiveEnvRelease),
   (0x140, .rdCfgActiveBoostPre),
   (0x144, .rdCfgActiveBoostPost),
   (0x148, .rdCfgActiveFiltCtrl),
   (0x14C, .rdCfgActiveFiltCutoff),
   (0x150, .rdCfgActiveFiltRes),
   (0x154, .rdCfgActiveFiltContour)]

/-- The mapped offsets and what a read of each is (R75). -/
def readTable : List (Offset × Instr) := readTable0 ++ readTable1 ++ readTable2

/-- The mapped offsets and what a write of each is (R75), part 0. -/
def writeTable0 : List (Offset × (U32 → Instr)) :=
  [(0x000, .wrCfgStageArpCtrl),
   (0x004, .wrCfgStageArpBpm),
   (0x008, .wrCfgStageArpDiv),
   (0x00C, .wrCfgStageOsc0Ctrl),
   (0x010, .wrCfgStageOsc0Fmult),
   (0x014, .wrCfgStageOsc0Gain),
   (0x018, .wrCfgStageOsc1Ctrl),
   (0x01C, .wrCfgStageOsc1Fmult),
   (0x020, .wrCfgStageOsc1Gain),
   (0x024, .wrCfgStageOsc2Ctrl),
   (0x028, .wrCfgStageOsc2Fmult),
   (0x02C, .wrCfgStageOsc2Gain),
   (0x030, .wrCfgStageEnvAttack),
   (0x034, .wrCfgStageEnvDecay),
   (0x038, .wrCfgStageEnvSustain),
   (0x03C, .wrCfgStageEnvRelease),
   (0x040, .wrCfgStageBoostPre),
   (0x044, .wrCfgStageBoostPost),
   (0x048, .wrCfgStageFiltCtrl),
   (0x04C, .wrCfgStageFiltCutoff),
   (0x050, .wrCfgStageFiltRes),
   (0x054, .wrCfgStageFiltContour)]

/-- The mapped offsets and what a write of each is (R75), part 1. -/
def writeTable1 : List (Offset × (U32 → Instr)) :=
  [(0x080, .wrCfgCommit),
   (0x084, .wrMboxStatus),
   (0x088, .wrEvtPush),
   (0x08C, .wrEvtStatus),
   (0x090, .wrVoiceStatus),
   (0x094, .wrEnvValue),
   (0x098, .wrArpCounter),
   (0x09C, .wrArpLastMs),
   (0x0A0, .wrTrkSlots0),
   (0x0A4, .wrTrkSlots1),
   (0x0A8, .wrTrkQuery),
   (0x0AC, .wrOscPhase0),
   (0x0B0, .wrOscPhase1),
   (0x0B4, .wrOscPhase2),
   (0x0B8, .wrFiltState),
   (0x0BC, .wrFiltFc),
   (0x0C0, .wrEnvArate),
   (0x0C4, .wrEnvDrate),
   (0x0C8, .wrEnvRrate),
   (0x0CC, .wrEnvSus),
   (0x100, .wrCfgActiveArpCtrl),
   (0x104, .wrCfgActiveArpBpm)]

/-- The mapped offsets and what a write of each is (R75), part 2. -/
def writeTable2 : List (Offset × (U32 → Instr)) :=
  [(0x108, .wrCfgActiveArpDiv),
   (0x10C, .wrCfgActiveOsc0Ctrl),
   (0x110, .wrCfgActiveOsc0Fmult),
   (0x114, .wrCfgActiveOsc0Gain),
   (0x118, .wrCfgActiveOsc1Ctrl),
   (0x11C, .wrCfgActiveOsc1Fmult),
   (0x120, .wrCfgActiveOsc1Gain),
   (0x124, .wrCfgActiveOsc2Ctrl),
   (0x128, .wrCfgActiveOsc2Fmult),
   (0x12C, .wrCfgActiveOsc2Gain),
   (0x130, .wrCfgActiveEnvAttack),
   (0x134, .wrCfgActiveEnvDecay),
   (0x138, .wrCfgActiveEnvSustain),
   (0x13C, .wrCfgActiveEnvRelease),
   (0x140, .wrCfgActiveBoostPre),
   (0x144, .wrCfgActiveBoostPost),
   (0x148, .wrCfgActiveFiltCtrl),
   (0x14C, .wrCfgActiveFiltCutoff),
   (0x150, .wrCfgActiveFiltRes),
   (0x154, .wrCfgActiveFiltContour)]

/-- The mapped offsets and what a write of each is (R75). -/
def writeTable : List (Offset × (U32 → Instr)) := writeTable0 ++ writeTable1 ++ writeTable2

/-- An aligned 4-byte read: the register's row, or RD_RESERVED where R75 maps nothing (R71). -/
def decodeRead (addr : Offset) : Instr :=
  match readTable.find? (fun row => row.1 == addr) with
  | some row => row.2
  | none => .rdReserved addr

/-- An aligned 4-byte write: the register's row, or WR_RESERVED where R75 maps nothing (R71). -/
def decodeWrite (addr : Offset) (v : U32) : Instr :=
  match writeTable.find? (fun row => row.1 == addr) with
  | some row => row.2 v
  | none => .wrReserved addr v

/-- A host access: BUS_ERROR first, whatever the offset (R71). -/
def decodeAccess (a : HostAccess) : Instr :=
  if a.isLegal then
    match a with
    | .read addr _ => decodeRead addr
    | .write addr _ v => decodeWrite addr v
  else .busError a

/-! ## The waveform selector (R113) -/

/-- `wave`, bits 2:1 of an OSCi_CTRL word (R100, R113). -/
def waveSelector (ctrl : U32) : BitVec 2 := ctrl.extractLsb' 1 2

/-- The waveform of a selector code; no code is reserved (R113). -/
def decodeWave (sel : BitVec 2) (p : F32) : Instr :=
  if sel = 0 then .waveSine p
  else if sel = 1 then .waveSaw p
  else if sel = 2 then .waveSquare p
  else .waveTriangle p

/-! ## Every frame -/

/-- The instruction of a frame: its port tells the format (R90). -/
def decode (f : Frame) : Instr :=
  match f with
  | .access a => decodeAccess a
  | .tick now => .tick now
  | .event w => decodeEvent w
  | .wave ctrl p => decodeWave (waveSelector ctrl) p

/-- The frame of an instruction, from the same tables (R75, R91, R113). The rows the opcode table calls internal have "no
host encoding" (R118) and no frame. -/
def encode (i : Instr) : Option Frame :=
  match i with
  | .noteOff chan pitch x15 vel x23 b3 => some (.event (evtWord chan 8 pitch x15 vel x23 b3))
  | .noteOnVel0 chan pitch x15 x23 b3 => some (.event (evtWord chan 9 pitch x15 0 x23 b3))
  | .noteOn chan pitch x15 vel x23 b3 => some (.event (evtWord chan 9 pitch x15 vel x23 b3))
  | .evtIgnore chan status pitch x15 vel x23 b3 => some (.event (evtWord chan status pitch x15 vel x23 b3))
  | .wrCfgStageArpCtrl v => some (.access (.write 0x000 4 v))
  | .rdCfgStageArpCtrl => some (.access (.read 0x000 4))
  | .wrCfgStageArpBpm v => some (.access (.write 0x004 4 v))
  | .rdCfgStageArpBpm => some (.access (.read 0x004 4))
  | .wrCfgStageArpDiv v => some (.access (.write 0x008 4 v))
  | .rdCfgStageArpDiv => some (.access (.read 0x008 4))
  | .wrCfgStageOsc0Ctrl v => some (.access (.write 0x00C 4 v))
  | .rdCfgStageOsc0Ctrl => some (.access (.read 0x00C 4))
  | .wrCfgStageOsc0Fmult v => some (.access (.write 0x010 4 v))
  | .rdCfgStageOsc0Fmult => some (.access (.read 0x010 4))
  | .wrCfgStageOsc0Gain v => some (.access (.write 0x014 4 v))
  | .rdCfgStageOsc0Gain => some (.access (.read 0x014 4))
  | .wrCfgStageOsc1Ctrl v => some (.access (.write 0x018 4 v))
  | .rdCfgStageOsc1Ctrl => some (.access (.read 0x018 4))
  | .wrCfgStageOsc1Fmult v => some (.access (.write 0x01C 4 v))
  | .rdCfgStageOsc1Fmult => some (.access (.read 0x01C 4))
  | .wrCfgStageOsc1Gain v => some (.access (.write 0x020 4 v))
  | .rdCfgStageOsc1Gain => some (.access (.read 0x020 4))
  | .wrCfgStageOsc2Ctrl v => some (.access (.write 0x024 4 v))
  | .rdCfgStageOsc2Ctrl => some (.access (.read 0x024 4))
  | .wrCfgStageOsc2Fmult v => some (.access (.write 0x028 4 v))
  | .rdCfgStageOsc2Fmult => some (.access (.read 0x028 4))
  | .wrCfgStageOsc2Gain v => some (.access (.write 0x02C 4 v))
  | .rdCfgStageOsc2Gain => some (.access (.read 0x02C 4))
  | .wrCfgStageEnvAttack v => some (.access (.write 0x030 4 v))
  | .rdCfgStageEnvAttack => some (.access (.read 0x030 4))
  | .wrCfgStageEnvDecay v => some (.access (.write 0x034 4 v))
  | .rdCfgStageEnvDecay => some (.access (.read 0x034 4))
  | .wrCfgStageEnvSustain v => some (.access (.write 0x038 4 v))
  | .rdCfgStageEnvSustain => some (.access (.read 0x038 4))
  | .wrCfgStageEnvRelease v => some (.access (.write 0x03C 4 v))
  | .rdCfgStageEnvRelease => some (.access (.read 0x03C 4))
  | .wrCfgStageBoostPre v => some (.access (.write 0x040 4 v))
  | .rdCfgStageBoostPre => some (.access (.read 0x040 4))
  | .wrCfgStageBoostPost v => some (.access (.write 0x044 4 v))
  | .rdCfgStageBoostPost => some (.access (.read 0x044 4))
  | .wrCfgStageFiltCtrl v => some (.access (.write 0x048 4 v))
  | .rdCfgStageFiltCtrl => some (.access (.read 0x048 4))
  | .wrCfgStageFiltCutoff v => some (.access (.write 0x04C 4 v))
  | .rdCfgStageFiltCutoff => some (.access (.read 0x04C 4))
  | .wrCfgStageFiltRes v => some (.access (.write 0x050 4 v))
  | .rdCfgStageFiltRes => some (.access (.read 0x050 4))
  | .wrCfgStageFiltContour v => some (.access (.write 0x054 4 v))
  | .rdCfgStageFiltContour => some (.access (.read 0x054 4))
  | .rdCfgActiveArpCtrl => some (.access (.read 0x100 4))
  | .wrCfgActiveArpCtrl v => some (.access (.write 0x100 4 v))
  | .rdCfgActiveArpBpm => some (.access (.read 0x104 4))
  | .wrCfgActiveArpBpm v => some (.access (.write 0x104 4 v))
  | .rdCfgActiveArpDiv => some (.access (.read 0x108 4))
  | .wrCfgActiveArpDiv v => some (.access (.write 0x108 4 v))
  | .rdCfgActiveOsc0Ctrl => some (.access (.read 0x10C 4))
  | .wrCfgActiveOsc0Ctrl v => some (.access (.write 0x10C 4 v))
  | .rdCfgActiveOsc0Fmult => some (.access (.read 0x110 4))
  | .wrCfgActiveOsc0Fmult v => some (.access (.write 0x110 4 v))
  | .rdCfgActiveOsc0Gain => some (.access (.read 0x114 4))
  | .wrCfgActiveOsc0Gain v => some (.access (.write 0x114 4 v))
  | .rdCfgActiveOsc1Ctrl => some (.access (.read 0x118 4))
  | .wrCfgActiveOsc1Ctrl v => some (.access (.write 0x118 4 v))
  | .rdCfgActiveOsc1Fmult => some (.access (.read 0x11C 4))
  | .wrCfgActiveOsc1Fmult v => some (.access (.write 0x11C 4 v))
  | .rdCfgActiveOsc1Gain => some (.access (.read 0x120 4))
  | .wrCfgActiveOsc1Gain v => some (.access (.write 0x120 4 v))
  | .rdCfgActiveOsc2Ctrl => some (.access (.read 0x124 4))
  | .wrCfgActiveOsc2Ctrl v => some (.access (.write 0x124 4 v))
  | .rdCfgActiveOsc2Fmult => some (.access (.read 0x128 4))
  | .wrCfgActiveOsc2Fmult v => some (.access (.write 0x128 4 v))
  | .rdCfgActiveOsc2Gain => some (.access (.read 0x12C 4))
  | .wrCfgActiveOsc2Gain v => some (.access (.write 0x12C 4 v))
  | .rdCfgActiveEnvAttack => some (.access (.read 0x130 4))
  | .wrCfgActiveEnvAttack v => some (.access (.write 0x130 4 v))
  | .rdCfgActiveEnvDecay => some (.access (.read 0x134 4))
  | .wrCfgActiveEnvDecay v => some (.access (.write 0x134 4 v))
  | .rdCfgActiveEnvSustain => some (.access (.read 0x138 4))
  | .wrCfgActiveEnvSustain v => some (.access (.write 0x138 4 v))
  | .rdCfgActiveEnvRelease => some (.access (.read 0x13C 4))
  | .wrCfgActiveEnvRelease v => some (.access (.write 0x13C 4 v))
  | .rdCfgActiveBoostPre => some (.access (.read 0x140 4))
  | .wrCfgActiveBoostPre v => some (.access (.write 0x140 4 v))
  | .rdCfgActiveBoostPost => some (.access (.read 0x144 4))
  | .wrCfgActiveBoostPost v => some (.access (.write 0x144 4 v))
  | .rdCfgActiveFiltCtrl => some (.access (.read 0x148 4))
  | .wrCfgActiveFiltCtrl v => some (.access (.write 0x148 4 v))
  | .rdCfgActiveFiltCutoff => some (.access (.read 0x14C 4))
  | .wrCfgActiveFiltCutoff v => some (.access (.write 0x14C 4 v))
  | .rdCfgActiveFiltRes => some (.access (.read 0x150 4))
  | .wrCfgActiveFiltRes v => some (.access (.write 0x150 4 v))
  | .rdCfgActiveFiltContour => some (.access (.read 0x154 4))
  | .wrCfgActiveFiltContour v => some (.access (.write 0x154 4 v))
  | .wrCfgCommit v => some (.access (.write 0x080 4 v))
  | .rdCfgCommit => some (.access (.read 0x080 4))
  | .rdMboxStatus => some (.access (.read 0x084 4))
  | .wrMboxStatus v => some (.access (.write 0x084 4 v))
  | .wrEvtPush v => some (.access (.write 0x088 4 v))
  | .rdEvtPush => some (.access (.read 0x088 4))
  | .rdEvtStatus => some (.access (.read 0x08C 4))
  | .wrEvtStatus v => some (.access (.write 0x08C 4 v))
  | .rdVoiceStatus => some (.access (.read 0x090 4))
  | .wrVoiceStatus v => some (.access (.write 0x090 4 v))
  | .rdEnvValue => some (.access (.read 0x094 4))
  | .wrEnvValue v => some (.access (.write 0x094 4 v))
  | .rdArpCounter => some (.access (.read 0x098 4))
  | .wrArpCounter v => some (.access (.write 0x098 4 v))
  | .rdArpLastMs => some (.access (.read 0x09C 4))
  | .wrArpLastMs v => some (.access (.write 0x09C 4 v))
  | .rdTrkSlots0 => some (.access (.read 0x0A0 4))
  | .wrTrkSlots0 v => some (.access (.write 0x0A0 4 v))
  | .rdTrkSlots1 => some (.access (.read 0x0A4 4))
  | .wrTrkSlots1 v => some (.access (.write 0x0A4 4 v))
  | .rdOscPhase0 => some (.access (.read 0x0AC 4))
  | .wrOscPhase0 v => some (.access (.write 0x0AC 4 v))
  | .rdOscPhase1 => some (.access (.read 0x0B0 4))
  | .wrOscPhase1 v => some (.access (.write 0x0B0 4 v))
  | .rdOscPhase2 => some (.access (.read 0x0B4 4))
  | .wrOscPhase2 v => some (.access (.write 0x0B4 4 v))
  | .rdFiltState => some (.access (.read 0x0B8 4))
  | .wrFiltState v => some (.access (.write 0x0B8 4 v))
  | .rdFiltFc => some (.access (.read 0x0BC 4))
  | .wrFiltFc v => some (.access (.write 0x0BC 4 v))
  | .rdEnvArate => some (.access (.read 0x0C0 4))
  | .wrEnvArate v => some (.access (.write 0x0C0 4 v))
  | .rdEnvDrate => some (.access (.read 0x0C4 4))
  | .wrEnvDrate v => some (.access (.write 0x0C4 4 v))
  | .rdEnvRrate => some (.access (.read 0x0C8 4))
  | .wrEnvRrate v => some (.access (.write 0x0C8 4 v))
  | .rdEnvSus => some (.access (.read 0x0CC 4))
  | .wrEnvSus v => some (.access (.write 0x0CC 4 v))
  | .wrTrkQuery v => some (.access (.write 0x0A8 4 v))
  | .rdTrkQuery => some (.access (.read 0x0A8 4))
  | .rdReserved addr => some (.access (.read addr 4))
  | .wrReserved addr v => some (.access (.write addr 4 v))
  | .busError a => some (.access a)
  | .tick now => some (.tick now)
  | .waveSine p => some (.wave 0x00000000 p)
  | .waveSaw p => some (.wave 0x00000002 p)
  | .waveSquare p => some (.wave 0x00000004 p)
  | .waveTriangle p => some (.wave 0x00000006 p)
  | .evtKind _ => none
  | .trkPush _ => none
  | .trkMostRecent => none
  | .trkSmallest => none
  | .trkRightOf _ => none
  | .trkPop _ => none
  | .trkLength => none
  | .trkAt _ => none
  | .arpPeriod _ => none
  | .arpStep _ _ => none
  | .arpClear => none
  | .arpIndex => none
  | .dt _ => none
  | .wave _ _ => none
  | .oscStep _ _ => none
  | .envSetRates _ => none
  | .envStep => none
  | .envStageOff => none
  | .envStageAttack => none
  | .envStageDecay => none
  | .envStageSustain => none
  | .envStageRelease => none
  | .envTriggerOn => none
  | .envTriggerOff => none
  | .filtTarget _ _ => none
  | .filtSmooth _ => none
  | .filtK _ => none
  | .filtSample _ _ => none
  | .satHard _ => none
  | .satSoft _ => none
  | .boostChain _ => none
  | .adopt => none
  | .drain => none
  | .emptyVoice => none
  | .selectNote _ => none
  | .retrigger _ => none
  | .setRatesStep => none
  | .sample _ => none
  | .emit _ => none

/-! ## The words of spec/opcode_table.json -/

/-- The frame that carries a row's bits `w` of `nbits` bits. The table's bits do not name the port, so the width does: one
byte is a waveform selector (codes below 8) or a status byte of an EVT32 word, two bytes a 9-bit offset (taken as a read,
the table giving a read and a write of one register the same bits), three bytes an EVT32 word, four bytes `now_ms`. Bits
above `nbits` are zero, the phase of a waveform selector included. Log 14. -/
def tableFrame (nbits w : Nat) : Option Frame :=
  if nbits ≤ 8 then
    some (if w % 256 < 8 then .wave (BitVec.ofNat 32 (w % 256)) 0 else .event (BitVec.ofNat 32 (w % 256)))
  else if nbits ≤ 16 then
    if w < 512 then some (.access (.read (BitVec.ofNat 9 w) 4)) else none
  else if nbits ≤ 24 then some (.event (BitVec.ofNat 32 (w % 2 ^ 24)))
  else if nbits ≤ 32 then some (.tick (BitVec.ofNat 32 w))
  else none

/-- The instruction the decoder reads from a word of spec/opcode_table.json; none past 32 bits, the width of every format
(R90, R115). -/
def decodeTableWord (nbits w : Nat) : Option Instr := (tableFrame nbits w).map decode

end Sys2Proof
end

