-- ==== Sys2Proof/Config.lean ====
section
/-! DEFINITION. What an implementation of the VE fixes: the parameters of 00_scope.md R9 and R10, and the values the spec
leaves open. An `opaque` constant has no body: nothing in Lean can evaluate it, so a theorem holds whatever it is. -/

namespace Sys2Proof

/-- BLOCK_SIZE, samples per block: a positive integer the spec leaves OPEN (R10, D3). Log 6. -/
opaque Config.blockSize : ℕ+

/-- NUM_TAN, the tangent the filter calls: OPEN (R10, R15, D22); nothing is assumed but that it is a function of its argument. Log 7. -/
opaque Config.numTan : F32 → F32

/-- EVQ_DEPTH, the capacity of the note-event FIFO (R10, R37, D4). -/
def Config.evqDepth : Nat := 32

/-- N_TRK, the capacity of the note tracker (R9, R38). -/
def Config.trkCapacity : Nat := 5

/-- NOTE_NONE, the sentinel note (R9, R130). -/
def Config.noteNone : U8 := 255#8

/-- The operations that can produce a NaN. -/
inductive FloatOp where
  | add | sub | mul | div | floor
  deriving DecidableEq, Repr

/-- FREE VALUE: the sign of the NaN an operation produces on these operands (IEEE 754 fixes none; R11). Log 8. -/
opaque Config.nanSign : FloatOp → F32 → F32 → Bool

/-- FREE VALUE: one less than the fraction field of that NaN, so that the fraction is any of 1 to 2^23 - 1. Log 8. -/
opaque Config.nanFraction : FloatOp → F32 → F32 → Fin 8388607

/-- FREE VALUE: what TRK_AT returns for an index at or above the tracker length (R137 defines it below the length only). Log 10. -/
opaque Config.trkAtBeyond : Nat → Vector U8 5 → Fin 6 → U8

/-- FREE VALUE: what ARP_INDEX returns while the tracker is empty (R153 defines it for a positive length only). Log 11. -/
opaque Config.arpIndexOfEmpty : U32 → Nat

/-- FREE VALUE: NOTE_HZ of a note in 128..254 (R170 lists 0..127; R171 treats 255 apart). Log 12. -/
opaque Config.noteHzBeyond : U8 → F32

/-- FREE VALUE: WAVE_SINE of a phase whose table index falls outside 0..255 (R172 asks for a phase in [0,1)). Log 13. -/
opaque Config.sineBeyond : F32 → F32

end Sys2Proof
end

