-- ==== Sys2Proof/Machine/Float.lean ====
section
/-! DEFINITION. IEEE 754 binary32 arithmetic, round to nearest with ties to even, subnormals kept, nothing fused
(00_scope.md R11), its comparisons (R12), the helper functions of R13 and the named constants of R16.

Every finite binary32 value is an integer multiple of 2^-149. `fScaled x` is that integer, so an operation is computed
exactly on integers and narrowed once, by `roundMag`. -/

namespace Sys2Proof.Machine

/-! ## Fields and classes -/

/-- The sign, bit 31 (R72). -/
def fSign (x : F32) : Bool := x.getLsbD 31

/-- The exponent field, bits 30:23, as a number. -/
def fExpo (x : F32) : Nat := (x.extractLsb' 23 8).toNat

/-- The fraction field, bits 22:0, as a number. -/
def fFrac (x : F32) : Nat := (x.extractLsb' 0 23).toNat

/-- A NaN: exponent all ones, fraction not zero. -/
def fIsNaN (x : F32) : Bool := fExpo x == 255 && fFrac x != 0

/-- An infinity: exponent all ones, fraction zero. -/
def fIsInf (x : F32) : Bool := fExpo x == 255 && fFrac x == 0

/-- Neither a NaN nor an infinity (R33 "finite"). -/
def fIsFinite (x : F32) : Bool := fExpo x != 255

/-- The magnitude of `x` in units of 2^-149: exact for every finite `x`; for an infinity a number above every finite magnitude. -/
def fMag (x : F32) : Nat := if fExpo x = 0 then fFrac x else (2 ^ 23 + fFrac x) * 2 ^ (fExpo x - 1)

/-- The value of `x` in units of 2^-149. -/
def fScaled (x : F32) : Int := if fSign x then -(fMag x : Int) else (fMag x : Int)

/-! ## Constants -/

/-- +0.0. -/
def fZero : F32 := 0x00000000#32
/-- -0.0. -/
def fNegZero : F32 := 0x80000000#32
/-- 0.5. -/
def fHalf : F32 := 0x3F000000#32
/-- 1.0. -/
def fOne : F32 := 0x3F800000#32
/-- -1.0. -/
def fNegOne : F32 := 0xBF800000#32
/-- 2.0. -/
def fTwo : F32 := 0x40000000#32
/-- 3.0, which is also SAT_LIM (R16). -/
def fThree : F32 := 0x40400000#32
/-- -3.0. -/
def fNegThree : F32 := 0xC0400000#32
/-- 4.0. -/
def fFour : F32 := 0x40800000#32
/-- 8.0. -/
def fEight : F32 := 0x41000000#32
/-- -8.0. -/
def fNegEight : F32 := 0xC1000000#32
/-- 9.0. -/
def fNine : F32 := 0x41100000#32
/-- 27.0. -/
def fTwentySeven : F32 := 0x41D80000#32
/-- 60.0. -/
def fSixty : F32 := 0x42700000#32
/-- 64.0. -/
def fSixtyFour : F32 := 0x42800000#32
/-- 256.0. -/
def f256 : F32 := 0x43800000#32
/-- -256.0. -/
def fNeg256 : F32 := 0xC3800000#32

/-- SR_F, 44100.0 (R16). -/
def srF : F32 := 0x472C4400#32
/-- PI_F (R16). -/
def piF : F32 := 0x40490FDB#32
/-- ENV_MIN_DURATION, about 0.001 s (R16, D12). -/
def envMinDuration : F32 := 0x3A83126F#32
/-- SMOOTH_A (R16, R212). -/
def smoothA : F32 := 0x396DBED1#32
/-- FC_MIN_F, 20.0 (R16). -/
def fcMinF : F32 := 0x41A00000#32
/-- FC_MAX_F, 20000.0 (R16). -/
def fcMaxF : F32 := 0x469C4000#32
/-- SAT_LIM, 3.0 (R16). -/
def satLim : F32 := 0x40400000#32

/-! ## Rounding -/

/-- The bit pattern (sign apart) of the binary32 value nearest to `num / den` units of 2^-149, ties to even (R11).
`e` is how far the 24-bit significand is shifted up; in binary32 the pattern of significand `q` at shift `e` is
`e * 2^23 + q`, also when `q` rounds up to 2^24 and when the value is subnormal (`e = 0`). A value that rounds past the
largest finite one is an infinity, pattern 0x7F800000. -/
def roundMag (num den : Nat) : Nat :=
  let e := Nat.log2 (num / den) - 23
  let unit := den * 2 ^ e
  let q := num / unit
  let r := num % unit
  let q' := if unit < 2 * r ∨ (2 * r = unit ∧ q % 2 = 1) then q + 1 else q
  min (e * 2 ^ 23 + q') 0x7F800000

/-- The binary32 word of a sign and a magnitude pattern. -/
def fPack (neg : Bool) (pattern : Nat) : F32 := BitVec.ofNat 32 ((if neg then 2 ^ 31 else 0) + pattern)

/-- The signed integer `v` (units of 2^-149) rounded; `zero` is what an exact zero becomes. -/
def fRoundInt (zero : F32) (v : Int) : F32 := if v = 0 then zero else fPack (decide (v < 0)) (roundMag v.natAbs 1)

/-- The infinity of a sign. -/
def fInf (neg : Bool) : F32 := fPack neg 0x7F800000

/-- The NaN that `op` produces on `x` and `y`: a NaN, its sign and fraction FREE (log 8). -/
def freeNaN (op : FloatOp) (x y : F32) : F32 :=
  fPack (Config.nanSign op x y) (0x7F800001 + (Config.nanFraction op x y).val)

/-! ## Arithmetic (R11) -/

/-- The sign bit flipped. -/
def fNeg (x : F32) : F32 := x ^^^ 0x80000000#32

/-- The sum of `x` and `y`, with `nan` for an invalid operation. An exact zero sum is +0.0 unless both are negative. -/
def fSum (nan x y : F32) : F32 :=
  if fIsNaN x || fIsNaN y then nan
  else if fIsInf x then (if fIsInf y && fSign x != fSign y then nan else x)
  else if fIsInf y then y
  else fRoundInt (if fSign x && fSign y then fNegZero else fZero) (fScaled x + fScaled y)

/-- `x + y` (R11). -/
def fAdd (x y : F32) : F32 := fSum (freeNaN .add x y) x y

/-- `x - y` (R11). -/
def fSub (x y : F32) : F32 := fSum (freeNaN .sub x y) x (fNeg y)

/-- `x * y` (R11). -/
def fMul (x y : F32) : F32 :=
  let neg := fSign x != fSign y
  if fIsNaN x || fIsNaN y then freeNaN .mul x y
  else if fIsInf x then (if fMag y = 0 then freeNaN .mul x y else fInf neg)
  else if fIsInf y then (if fMag x = 0 then freeNaN .mul x y else fInf neg)
  else fPack neg (roundMag (fMag x * fMag y) (2 ^ 149))

/-- `x / y` (R11). -/
def fDiv (x y : F32) : F32 :=
  let neg := fSign x != fSign y
  if fIsNaN x || fIsNaN y then freeNaN .div x y
  else if fIsInf x then (if fIsInf y then freeNaN .div x y else fInf neg)
  else if fIsInf y then fPack neg 0
  else if fMag y = 0 then (if fMag x = 0 then freeNaN .div x y else fInf neg)
  else fPack neg (roundMag (fMag x * 2 ^ 149) (fMag y))

/-! ## Comparisons (R12): false with a NaN operand, -0.0 equal to +0.0 -/

/-- `x < y`. -/
def fLt (x y : F32) : Bool := !fIsNaN x && !fIsNaN y && decide (fScaled x < fScaled y)

/-- `x <= y`. -/
def fLe (x y : F32) : Bool := !fIsNaN x && !fIsNaN y && decide (fScaled x ≤ fScaled y)

/-- `x == y`. -/
def fEq (x y : F32) : Bool := !fIsNaN x && !fIsNaN y && decide (fScaled x = fScaled y)

/-! ## Helper functions (R13) -/

/-- `floor(x)` (R13): exact; `x` itself from 2^23 on. A zero result keeps the sign of `x` (log 9). -/
def fFloor (x : F32) : F32 :=
  if fIsNaN x then freeNaN .floor x x
  else if 2 ^ 172 ≤ fMag x then x
  else fPack (fSign x) (roundMag ((fScaled x / 2 ^ 149).natAbs * 2 ^ 149) 1)

/-- The integer an integer-valued `x` stands for. -/
def fToInt (x : F32) : Int := fScaled x / 2 ^ 149

/-- `clamp(x, lo, hi)` (R13). -/
def fClamp (x lo hi : F32) : F32 := if fLt x lo then lo else if fLt hi x then hi else x

/-- `fmax(x, m)` (R13). -/
def fMax (x m : F32) : F32 := if fLt x m then m else x

/-- `fabs(x)` (R13): the sign bit cleared. -/
def fAbs (x : F32) : F32 := x &&& 0x7FFFFFFF#32

/-- `i2f(n)` (R13): exact for `n <= 2^24`. -/
def i2f (n : Nat) : F32 := fPack false (roundMag (n * 2 ^ 149) 1)

end Sys2Proof.Machine
end

