-- ==== Sys2Proof/Machine/Operands.lean ====
section
/-! DEFINITION. The operand forms: the EVT32 event kind and pitch (30_encoding.md R92, R93), the configuration image and
its masks (R100 to R105), and which configurations are legal (10_state.md R33). -/

namespace Sys2Proof.Machine

/-! ## EVT32 -/

/-- The event kinds of R92. -/
inductive EventKind where
  | noteOff | noteOn | ignore
  deriving DecidableEq, Repr

/-- `kind(w)` (R92), in its priority order. -/
def evtKind (w : U32) : EventKind :=
  if evtStatus w = 8 then .noteOff
  else if evtStatus w = 9 ∧ evtVel w = 0 then .noteOff
  else if evtStatus w = 9 then .noteOn
  else .ignore

/-- A 7-bit pitch as a note: `zext_8` (R93). -/
def pitchNote (pitch : BitVec 7) : U8 := pitch.zeroExtend 8

/-! ## The configuration image (R100) -/

/-- A boolean field in bit 0 (R101). -/
def boolWord (b : Bool) : U32 := 0#31 ++ BitVec.ofBool b

/-- OSCi_CTRL: bit 0 `en`, bits 2:1 `wave` (R100). -/
def oscCtrlWord (c : OscCfg) : U32 := 0#29 ++ c.wave ++ BitVec.ofBool c.en

/-- FILT_CTRL: bit 0 `en`, bit 1 `contour_en` (R100). -/
def filtCtrlWord (c : FiltCfg) : U32 := 0#30 ++ BitVec.ofBool c.contourEn ++ BitVec.ofBool c.en

/-- `encode_cfg` (R100): the 22 words of a configuration. -/
def encodeCfg (c : SynthConfig) : Vector U32 22 :=
  #v[boolWord c.arp.en, c.arp.bpm, c.arp.div,
     oscCtrlWord c.osc[0], c.osc[0].fmult, c.osc[0].gain,
     oscCtrlWord c.osc[1], c.osc[1].fmult, c.osc[1].gain,
     oscCtrlWord c.osc[2], c.osc[2].fmult, c.osc[2].gain,
     c.env.attack, c.env.decay, c.env.sustain, c.env.release,
     c.boost.pre, c.boost.post,
     filtCtrlWord c.filt, c.filt.cutoff, c.filt.res, c.filt.contour]

/-- The three words of an oscillator, decoded (R105). -/
def decodeOsc (ctrl fmult gain : U32) : OscCfg := { en := ctrl.getLsbD 0, wave := waveSelector ctrl, fmult, gain }

/-- `decode_cfg` (R105): the defined bits of the 22 words; an f32 field copies its word, NaNs included (R102). -/
def decodeCfg (img : Vector U32 22) : SynthConfig where
  arp := { en := img[0].getLsbD 0, bpm := img[1], div := img[2] }
  osc := #v[decodeOsc img[3] img[4] img[5], decodeOsc img[6] img[7] img[8], decodeOsc img[9] img[10] img[11]]
  env := { attack := img[12], decay := img[13], sustain := img[14], release := img[15] }
  boost := { pre := img[16], post := img[17] }
  filt := { en := img[18].getLsbD 0, contourEn := img[18].getLsbD 1, cutoff := img[19], res := img[20], contour := img[21] }

/-- The mask of defined bits of CFG word `k` (R103): ARP_CTRL, OSCi_CTRL and FILT_CTRL have reserved bits. -/
def cfgMask (k : Fin 22) : U32 :=
  if k = 0 then 0x00000001
  else if k = 3 ∨ k = 6 ∨ k = 9 then 0x00000007
  else if k = 18 then 0x00000003
  else 0xFFFFFFFF

/-! ## Legal configurations (R33) -/

/-- A finite value in `lo <= x <= hi`. -/
def finiteIn (lo hi x : F32) : Bool := fIsFinite x && fLe lo x && fLe x hi

/-- The range of one oscillator's fields (R33); every `wave` code and either `en` is legal. -/
def legalOsc (c : OscCfg) : Bool := finiteIn fNeg256 f256 c.fmult && finiteIn fNegEight fEight c.gain

/-- The range of the envelope fields (R33). -/
def legalEnv (c : EnvCfg) : Bool :=
  finiteIn fZero fSixty c.attack && finiteIn fZero fSixty c.decay && finiteIn fZero fOne c.sustain
    && finiteIn fZero fSixty c.release

/-- The range of the boost fields (R33). -/
def legalBoost (c : BoostCfg) : Bool := finiteIn fZero fSixtyFour c.pre && finiteIn fZero fEight c.post

/-- The filter's fields need only be finite (R33): the cutoff and the resonance are clamped at use. -/
def legalFilt (c : FiltCfg) : Bool := fIsFinite c.cutoff && fIsFinite c.res && fIsFinite c.contour

/-- `legal(c)` (R33). Any `arp.bpm` and `arp.div` is legal. -/
def legal (c : SynthConfig) : Bool :=
  legalOsc c.osc[0] && legalOsc c.osc[1] && legalOsc c.osc[2] && legalEnv c.env && legalBoost c.boost && legalFilt c.filt

end Sys2Proof.Machine
end

