-- ==== Sys2Proof/Machine/State.lean ====
section
/-! DEFINITION. The state of the VE: 10_state.md R30 to R47, and the model's own view of its port. -/

namespace Sys2Proof.Machine

/-- The faults a step can STOP with: none. "The VE raises no architectural exception" (R280), and raising a model fault
"never stops a tick or the model" (R281): BusError and IllegalConfig are records in `State.faults`. Nothing raises a value
of this type; having none is safe in that no run is cut short. Log 16. -/
inductive Fault : Type
  deriving DecidableEq, Repr

/-- The refusals of a step. -/
inductive Refusal where
  /-- The instruction has no meaning in the model. Raised by an arm of `exec` only; no arm raises it. Safe: the run stops. -/
  | notModelled (mnemonic : String)
  deriving DecidableEq, Repr

/-- A record of `S.faults` (R281). -/
inductive FaultRecord where
  /-- BusError, code 1: the access that was not an aligned 4-byte one, with its address, size and direction. -/
  | busError (write : Bool) (addr : Offset) (size : Nat)
  /-- IllegalConfig, code 2: the configuration ADOPT rejected. -/
  | illegalConfig (c : SynthConfig)
  deriving DecidableEq, Repr

/-- The envelope stages (R43). -/
inductive EnvStage where
  | off | attack | decay | sustain | release
  deriving DecidableEq, Repr

/-- The arpeggiator period ARP_PERIOD returns (R150). -/
inductive Period where
  /-- NEVER: the arpeggiator does not advance. -/
  | never
  /-- A period in whole milliseconds. -/
  | ms (n : Nat)
  deriving DecidableEq, Repr

/-- What an internal operation returned (R18). Log 4. -/
inductive Result where
  | none
  | flag (b : Bool)
  | note (n : U8)
  | count (n : Nat)
  | period (p : Period)
  | sample (x : F32)
  | kind (k : EventKind)
  deriving DecidableEq, Repr

/-- The VE: every element of R31 to R47 under its own name, and four fields of the model's own (last). -/
structure State where
  /-- `S.cfg_active`, the configuration in use (R31); `CFG` in the rules. -/
  cfgActive : SynthConfig
  /-- `S.cfg_stage[0..21]`, the staging image (R35). -/
  cfgStage : Vector U32 22
  /-- `S.mbox_slot` (R36). -/
  mboxSlot : SynthConfig
  /-- `S.mbox_pending` (R36). -/
  mboxPending : Bool
  /-- `S.evq`, the note-event FIFO, head first (R37). -/
  evq : List U32
  /-- `S.evq_ovf`, sticky (R37). -/
  evqOvf : Bool
  /-- `S.trk_slot[0..4]` (R38). -/
  trkSlot : Vector U8 5
  /-- `S.trk_len`, 0..5 (R38). -/
  trkLen : Fin 6
  /-- `S.trk_query_arg` (R39). -/
  trkQueryArg : U8
  /-- `S.arp_active` (R40). -/
  arpActive : Bool
  /-- `S.arp_last_ms` (R40). -/
  arpLastMs : U32
  /-- `S.arp_counter` (R40). -/
  arpCounter : U32
  /-- `S.voice_en` (R41). -/
  voiceEn : Bool
  /-- `S.voice_note` (R41). -/
  voiceNote : U8
  /-- `S.osc_phase[0..2]` (R42). -/
  oscPhase : Vector F32 3
  /-- `S.env_stage` (R43). -/
  envStage : EnvStage
  /-- `S.env_value` (R43). -/
  envValue : F32
  /-- `S.env_arate` (R44). -/
  envArate : F32
  /-- `S.env_drate` (R44). -/
  envDrate : F32
  /-- `S.env_rrate` (R44). -/
  envRrate : F32
  /-- `S.env_sus` (R44). -/
  envSus : F32
  /-- `S.filt_s` (R45). -/
  filtS : F32
  /-- `S.filt_fc` (R45). -/
  filtFc : F32
  /-- `S.out`, oldest first (R46). -/
  out : List F32
  /-- `S.faults`, oldest first (R47). -/
  faults : List FaultRecord
  /-- MODEL: the frames still to reach the ports, in the total order of R76. Log 1. -/
  inbox : List Frame
  /-- MODEL: the value the last host read returned (R71). Log 3. -/
  hostData : U32
  /-- MODEL: whether the last host access got the error response (R71). Log 3. -/
  hostErr : Bool
  /-- MODEL: what the last internal operation run as an instruction returned (R18). Log 4. -/
  result : Result
  deriving DecidableEq, Repr

/-- What one step answers. -/
abbrev StepOutcome := Host.Outcome State Fault Refusal

/-- An oscillator of RESET_CONFIG: SAW, multiplier 1.0, gain 1.0 (R34). -/
def resetOsc (en : Bool) : OscCfg := { en, wave := 1, fmult := 0x3F800000, gain := 0x3F800000 }

/-- RESET_CONFIG (R34). -/
def resetConfig : SynthConfig where
  arp := { en := false, bpm := 120, div := 1 }
  osc := #v[resetOsc true, resetOsc false, resetOsc false]
  env := { attack := 0x3C23D70A, decay := 0x3DCCCCCD, sustain := 0x3F333333, release := 0x3E4CCCCD }
  boost := { pre := 0x3F800000, post := 0x3F800000 }
  filt := { en := false, contourEn := false, cutoff := 0x469C4000, res := 0x00000000, contour := 0x00000000 }

/-- The staging image at reset, as R101 lists it. -/
def resetStage : Vector U32 22 :=
  #v[0x00000000, 0x00000078, 0x00000001, 0x00000003, 0x3F800000, 0x3F800000, 0x00000002, 0x3F800000, 0x3F800000,
     0x00000002, 0x3F800000, 0x3F800000, 0x3C23D70A, 0x3DCCCCCD, 0x3F333333, 0x3E4CCCCD, 0x3F800000, 0x3F800000,
     0x00000000, 0x469C4000, 0x00000000, 0x00000000]

/-- The VE right after reset: the table of 70_reset_and_hazards.md R300. -/
def State.reset : State where
  cfgActive := resetConfig
  cfgStage := resetStage
  mboxSlot := resetConfig
  mboxPending := false
  evq := []
  evqOvf := false
  trkSlot := #v[255, 255, 255, 255, 255]
  trkLen := 0
  trkQueryArg := 255
  arpActive := false
  arpLastMs := 0
  arpCounter := 0
  voiceEn := false
  voiceNote := 255
  oscPhase := #v[0x00000000, 0x00000000, 0x00000000]
  envStage := .off
  envValue := 0x00000000
  envArate := 0x3B149B93
  envDrate := 0x396DC5B8
  envRrate := 0x38EDC5B8
  envSus := 0x3F333333
  filtS := 0x00000000
  filtFc := 0x469C4000
  out := []
  faults := []
  inbox := []
  hostData := 0
  hostErr := false
  result := .none

end Sys2Proof.Machine
end

