-- ==== Sys2Proof/Machine/Ops.lean ====
section
/-! DEFINITION. The named operations the meanings share: taking the next frame, answering a host access, recording a fault
(60_exceptions.md R281), and the registers a host writes (46_voice_and_ports.md R252 to R260). -/

namespace Sys2Proof.Machine

/-- The next frame in the total order of R76, and the state without it; none while no access and no tick has come. Log 1. -/
def fetchFrame (s : State) : Option (Frame × State) :=
  match s.inbox with
  | [] => none
  | f :: rest => some (f, { s with inbox := rest })

/-! ## Faults -/

/-- `raise Fault(kind, info)` (R281): the record is appended and nothing else changes. This is all a fault does: there is
no trap entry (R286) and no return (R287). -/
def raiseFault (r : FaultRecord) (s : State) : State := { s with faults := s.faults ++ [r] }

/-- The code of a fault record (R281). -/
def faultCode : FaultRecord → Nat
  | .busError _ _ _ => 1
  | .illegalConfig _ => 2

/-! ## Answers to the host -/

/-- A read that returns `v`; no side effect (R73). -/
def hostRead (v : U32) (s : State) : State := { s with hostData := v, hostErr := false }

/-- A write that was accepted. -/
def hostWrote (s : State) : State := { s with hostErr := false }

/-- An access R71 answers with an error response: BusError is recorded, a read returns 0, nothing else changes. -/
def hostBusError (a : HostAccess) (s : State) : State :=
  match a with
  | .read addr size => { raiseFault (.busError false addr size) s with hostData := 0, hostErr := true }
  | .write addr size _ => { raiseFault (.busError true addr size) s with hostErr := true }

/-! ## The value an internal operation returns -/

/-- `return r` (R18) of an operation run as an instruction. -/
def returnValue (r : Result) (s : State) : State := { s with result := r }

/-! ## Registers a host writes -/

/-- CFG_STAGE[k] read (R253). -/
def stageRead (k : Fin 22) (s : State) : U32 := s.cfgStage[k]

/-- CFG_STAGE[k] write (R252): only the defined bits are stored (R104). -/
def stageWrite (k : Fin 22) (v : U32) (s : State) : State :=
  { s with cfgStage := s.cfgStage.set k (v &&& cfgMask k) }

/-- CFG_ACTIVE[k] read (R253). -/
def activeRead (k : Fin 22) (s : State) : U32 := (encodeCfg s.cfgActive)[k]

/-- CFG_COMMIT write (R254): the whole staging image at once (R74), over any unconsumed value. -/
def commit (s : State) : State := { s with mboxSlot := decodeCfg s.cfgStage, mboxPending := true }

/-- EVT_PUSH write (R256): queued unchanged, or dropped with the sticky overflow flag set (R282: not a fault). -/
def evtPush (w : U32) (s : State) : State :=
  if s.evq.length < Config.evqDepth then { s with evq := s.evq ++ [w] } else { s with evqOvf := true }

/-- EVT_STATUS write (R258): bit 16 is write-1-to-clear. -/
def evtStatusWrite (v : U32) (s : State) : State := if v.getLsbD 16 then { s with evqOvf := false } else s

/-- TRK_QUERY write (R260): bits 7:0. -/
def queryWrite (v : U32) (s : State) : State := { s with trkQueryArg := v.extractLsb' 0 8 }

/-! ## The output port -/

/-- `Emit(x)` (R251): appended; the port has no backpressure. -/
def emit (x : F32) (s : State) : State := { s with out := s.out ++ [x] }

end Sys2Proof.Machine
end

