-- ==== Sys2Proof/Machine/ActiveRegs.lean ====
section
/-! DEFINITION. The meanings of the CFG_ACTIVE reads (46_voice_and_ports.md R253) and of the ignored writes (20_memory.md R73). -/

namespace Sys2Proof.Machine

/-- RD_CFG_ACTIVE_ARP_CTRL: read of CFG_ACTIVE[0], offset 0x100 (R253). -/
def execRdCfgActiveArpCtrl (s : State) : StepOutcome := .next (hostRead (activeRead 0 s) s)

/-- WR_CFG_ACTIVE_ARP_CTRL: write of read-only CFG_ACTIVE_ARP_CTRL, offset 0x100 (R73). -/
def execWrCfgActiveArpCtrl (_v : U32) (s : State) : StepOutcome := .next (hostWrote s)

/-- RD_CFG_ACTIVE_ARP_BPM: read of CFG_ACTIVE[1], offset 0x104 (R253). -/
def execRdCfgActiveArpBpm (s : State) : StepOutcome := .next (hostRead (activeRead 1 s) s)

/-- WR_CFG_ACTIVE_ARP_BPM: write of read-only CFG_ACTIVE_ARP_BPM, offset 0x104 (R73). -/
def execWrCfgActiveArpBpm (_v : U32) (s : State) : StepOutcome := .next (hostWrote s)

/-- RD_CFG_ACTIVE_ARP_DIV: read of CFG_ACTIVE[2], offset 0x108 (R253). -/
def execRdCfgActiveArpDiv (s : State) : StepOutcome := .next (hostRead (activeRead 2 s) s)

/-- WR_CFG_ACTIVE_ARP_DIV: write of read-only CFG_ACTIVE_ARP_DIV, offset 0x108 (R73). -/
def execWrCfgActiveArpDiv (_v : U32) (s : State) : StepOutcome := .next (hostWrote s)

/-- RD_CFG_ACTIVE_OSC0_CTRL: read of CFG_ACTIVE[3], offset 0x10C (R253). -/
def execRdCfgActiveOsc0Ctrl (s : State) : StepOutcome := .next (hostRead (activeRead 3 s) s)

/-- WR_CFG_ACTIVE_OSC0_CTRL: write of read-only CFG_ACTIVE_OSC0_CTRL, offset 0x10C (R73). -/
def execWrCfgActiveOsc0Ctrl (_v : U32) (s : State) : StepOutcome := .next (hostWrote s)

/-- RD_CFG_ACTIVE_OSC0_FMULT: read of CFG_ACTIVE[4], offset 0x110 (R253). -/
def execRdCfgActiveOsc0Fmult (s : State) : StepOutcome := .next (hostRead (activeRead 4 s) s)

/-- WR_CFG_ACTIVE_OSC0_FMULT: write of read-only CFG_ACTIVE_OSC0_FMULT, offset 0x110 (R73). -/
def execWrCfgActiveOsc0Fmult (_v : U32) (s : State) : StepOutcome := .next (hostWrote s)

/-- RD_CFG_ACTIVE_OSC0_GAIN: read of CFG_ACTIVE[5], offset 0x114 (R253). -/
def execRdCfgActiveOsc0Gain (s : State) : StepOutcome := .next (hostRead (activeRead 5 s) s)

/-- WR_CFG_ACTIVE_OSC0_GAIN: write of read-only CFG_ACTIVE_OSC0_GAIN, offset 0x114 (R73). -/
def execWrCfgActiveOsc0Gain (_v : U32) (s : State) : StepOutcome := .next (hostWrote s)

/-- RD_CFG_ACTIVE_OSC1_CTRL: read of CFG_ACTIVE[6], offset 0x118 (R253). -/
def execRdCfgActiveOsc1Ctrl (s : State) : StepOutcome := .next (hostRead (activeRead 6 s) s)

/-- WR_CFG_ACTIVE_OSC1_CTRL: write of read-only CFG_ACTIVE_OSC1_CTRL, offset 0x118 (R73). -/
def execWrCfgActiveOsc1Ctrl (_v : U32) (s : State) : StepOutcome := .next (hostWrote s)

/-- RD_CFG_ACTIVE_OSC1_FMULT: read of CFG_ACTIVE[7], offset 0x11C (R253). -/
def execRdCfgActiveOsc1Fmult (s : State) : StepOutcome := .next (hostRead (activeRead 7 s) s)

/-- WR_CFG_ACTIVE_OSC1_FMULT: write of read-only CFG_ACTIVE_OSC1_FMULT, offset 0x11C (R73). -/
def execWrCfgActiveOsc1Fmult (_v : U32) (s : State) : StepOutcome := .next (hostWrote s)

/-- RD_CFG_ACTIVE_OSC1_GAIN: read of CFG_ACTIVE[8], offset 0x120 (R253). -/
def execRdCfgActiveOsc1Gain (s : State) : StepOutcome := .next (hostRead (activeRead 8 s) s)

/-- WR_CFG_ACTIVE_OSC1_GAIN: write of read-only CFG_ACTIVE_OSC1_GAIN, offset 0x120 (R73). -/
def execWrCfgActiveOsc1Gain (_v : U32) (s : State) : StepOutcome := .next (hostWrote s)

/-- RD_CFG_ACTIVE_OSC2_CTRL: read of CFG_ACTIVE[9], offset 0x124 (R253). -/
def execRdCfgActiveOsc2Ctrl (s : State) : StepOutcome := .next (hostRead (activeRead 9 s) s)

/-- WR_CFG_ACTIVE_OSC2_CTRL: write of read-only CFG_ACTIVE_OSC2_CTRL, offset 0x124 (R73). -/
def execWrCfgActiveOsc2Ctrl (_v : U32) (s : State) : StepOutcome := .next (hostWrote s)

/-- RD_CFG_ACTIVE_OSC2_FMULT: read of CFG_ACTIVE[10], offset 0x128 (R253). -/
def execRdCfgActiveOsc2Fmult (s : State) : StepOutcome := .next (hostRead (activeRead 10 s) s)

/-- WR_CFG_ACTIVE_OSC2_FMULT: write of read-only CFG_ACTIVE_OSC2_FMULT, offset 0x128 (R73). -/
def execWrCfgActiveOsc2Fmult (_v : U32) (s : State) : StepOutcome := .next (hostWrote s)

/-- RD_CFG_ACTIVE_OSC2_GAIN: read of CFG_ACTIVE[11], offset 0x12C (R253). -/
def execRdCfgActiveOsc2Gain (s : State) : StepOutcome := .next (hostRead (activeRead 11 s) s)

/-- WR_CFG_ACTIVE_OSC2_GAIN: write of read-only CFG_ACTIVE_OSC2_GAIN, offset 0x12C (R73). -/
def execWrCfgActiveOsc2Gain (_v : U32) (s : State) : StepOutcome := .next (hostWrote s)

/-- RD_CFG_ACTIVE_ENV_ATTACK: read of CFG_ACTIVE[12], offset 0x130 (R253). -/
def execRdCfgActiveEnvAttack (s : State) : StepOutcome := .next (hostRead (activeRead 12 s) s)

/-- WR_CFG_ACTIVE_ENV_ATTACK: write of read-only CFG_ACTIVE_ENV_ATTACK, offset 0x130 (R73). -/
def execWrCfgActiveEnvAttack (_v : U32) (s : State) : StepOutcome := .next (hostWrote s)

/-- RD_CFG_ACTIVE_ENV_DECAY: read of CFG_ACTIVE[13], offset 0x134 (R253). -/
def execRdCfgActiveEnvDecay (s : State) : StepOutcome := .next (hostRead (activeRead 13 s) s)

/-- WR_CFG_ACTIVE_ENV_DECAY: write of read-only CFG_ACTIVE_ENV_DECAY, offset 0x134 (R73). -/
def execWrCfgActiveEnvDecay (_v : U32) (s : State) : StepOutcome := .next (hostWrote s)

/-- RD_CFG_ACTIVE_ENV_SUSTAIN: read of CFG_ACTIVE[14], offset 0x138 (R253). -/
def execRdCfgActiveEnvSustain (s : State) : StepOutcome := .next (hostRead (activeRead 14 s) s)

/-- WR_CFG_ACTIVE_ENV_SUSTAIN: write of read-only CFG_ACTIVE_ENV_SUSTAIN, offset 0x138 (R73). -/
def execWrCfgActiveEnvSustain (_v : U32) (s : State) : StepOutcome := .next (hostWrote s)

/-- RD_CFG_ACTIVE_ENV_RELEASE: read of CFG_ACTIVE[15], offset 0x13C (R253). -/
def execRdCfgActiveEnvRelease (s : State) : StepOutcome := .next (hostRead (activeRead 15 s) s)

/-- WR_CFG_ACTIVE_ENV_RELEASE: write of read-only CFG_ACTIVE_ENV_RELEASE, offset 0x13C (R73). -/
def execWrCfgActiveEnvRelease (_v : U32) (s : State) : StepOutcome := .next (hostWrote s)

/-- RD_CFG_ACTIVE_BOOST_PRE: read of CFG_ACTIVE[16], offset 0x140 (R253). -/
def execRdCfgActiveBoostPre (s : State) : StepOutcome := .next (hostRead (activeRead 16 s) s)

/-- WR_CFG_ACTIVE_BOOST_PRE: write of read-only CFG_ACTIVE_BOOST_PRE, offset 0x140 (R73). -/
def execWrCfgActiveBoostPre (_v : U32) (s : State) : StepOutcome := .next (hostWrote s)

/-- RD_CFG_ACTIVE_BOOST_POST: read of CFG_ACTIVE[17], offset 0x144 (R253). -/
def execRdCfgActiveBoostPost (s : State) : StepOutcome := .next (hostRead (activeRead 17 s) s)

/-- WR_CFG_ACTIVE_BOOST_POST: write of read-only CFG_ACTIVE_BOOST_POST, offset 0x144 (R73). -/
def execWrCfgActiveBoostPost (_v : U32) (s : State) : StepOutcome := .next (hostWrote s)

/-- RD_CFG_ACTIVE_FILT_CTRL: read of CFG_ACTIVE[18], offset 0x148 (R253). -/
def execRdCfgActiveFiltCtrl (s : State) : StepOutcome := .next (hostRead (activeRead 18 s) s)

/-- WR_CFG_ACTIVE_FILT_CTRL: write of read-only CFG_ACTIVE_FILT_CTRL, offset 0x148 (R73). -/
def execWrCfgActiveFiltCtrl (_v : U32) (s : State) : StepOutcome := .next (hostWrote s)

/-- RD_CFG_ACTIVE_FILT_CUTOFF: read of CFG_ACTIVE[19], offset 0x14C (R253). -/
def execRdCfgActiveFiltCutoff (s : State) : StepOutcome := .next (hostRead (activeRead 19 s) s)

/-- WR_CFG_ACTIVE_FILT_CUTOFF: write of read-only CFG_ACTIVE_FILT_CUTOFF, offset 0x14C (R73). -/
def execWrCfgActiveFiltCutoff (_v : U32) (s : State) : StepOutcome := .next (hostWrote s)

/-- RD_CFG_ACTIVE_FILT_RES: read of CFG_ACTIVE[20], offset 0x150 (R253). -/
def execRdCfgActiveFiltRes (s : State) : StepOutcome := .next (hostRead (activeRead 20 s) s)

/-- WR_CFG_ACTIVE_FILT_RES: write of read-only CFG_ACTIVE_FILT_RES, offset 0x150 (R73). -/
def execWrCfgActiveFiltRes (_v : U32) (s : State) : StepOutcome := .next (hostWrote s)

/-- RD_CFG_ACTIVE_FILT_CONTOUR: read of CFG_ACTIVE[21], offset 0x154 (R253). -/
def execRdCfgActiveFiltContour (s : State) : StepOutcome := .next (hostRead (activeRead 21 s) s)

/-- WR_CFG_ACTIVE_FILT_CONTOUR: write of read-only CFG_ACTIVE_FILT_CONTOUR, offset 0x154 (R73). -/
def execWrCfgActiveFiltContour (_v : U32) (s : State) : StepOutcome := .next (hostWrote s)

end Sys2Proof.Machine
end

