-- ==== Sys2Proof/Machine/Tracker.lean ====
section
/-! DEFINITION. The note tracker: 40_note_tracker.md R130 to R137. -/

namespace Sys2Proof.Machine

/-- `trk_slot[0..trk_len-1]`, the notes held, most recent first (R38). -/
def heldNotes (s : State) : List U8 := s.trkSlot.toList.take s.trkLen.val

/-- TRK_MOST_RECENT (R132). -/
def trkMostRecent (s : State) : U8 := s.trkSlot[0]

/-- TRK_SMALLEST (R133): 255 on an empty tracker. -/
def trkSmallest (s : State) : U8 := (heldNotes s).foldl (fun r n => if n < r then n else r) 255

/-- The smallest held note strictly greater than `x`, or 255 (the loop of R134). -/
def trkNextAbove (x : U8) (s : State) : U8 := (heldNotes s).foldl (fun c n => if x < n ∧ n < c then n else c) 255

/-- TRK_RIGHT_OF (R134). -/
def trkRightOf (x : U8) (s : State) : U8 :=
  if s.trkLen = 0 then 255
  else if s.trkLen = 1 then s.trkSlot[0]
  else if x = 255 then trkSmallest s
  else if trkNextAbove x s = 255 then trkSmallest s
  else trkNextAbove x s

/-- TRK_LENGTH (R136). -/
def trkLength (s : State) : Nat := s.trkLen.val

/-- TRK_AT (R137), defined below the length; a free value elsewhere (log 10). -/
def trkAt (i : Nat) (s : State) : U8 :=
  if i < s.trkLen.val then (s.trkSlot.toList[i]?).getD (Config.trkAtBeyond i s.trkSlot s.trkLen)
  else Config.trkAtBeyond i s.trkSlot s.trkLen

/-- `min(len + 1, 5)` (R131). -/
def lenAfterPush (len : Fin 6) : Fin 6 := ⟨min (len.val + 1) 5, by omega⟩

/-- `len - 1` (R135), for a positive length. -/
def lenAfterPop (len : Fin 6) : Fin 6 := ⟨len.val - 1, by omega⟩

/-- TRK_PUSH (R131): the sentinel and a note already held are no-ops; the oldest of five is shifted out. -/
def trkPush (note : U8) (s : State) : State :=
  if note = 255 then s
  else if note ∈ heldNotes s then s
  else { s with
    trkSlot := #v[note, s.trkSlot[0], s.trkSlot[1], s.trkSlot[2], s.trkSlot[3]]
    trkLen := lenAfterPush s.trkLen }

/-- The slots with index `j` taken out: later entries move forward, 255 comes in at the back (R135). -/
def removeSlot (j : Nat) (slots : Vector U8 5) : Vector U8 5 :=
  #v[if 0 < j then slots[0] else slots[1], if 1 < j then slots[1] else slots[2], if 2 < j then slots[2] else slots[3],
     if 3 < j then slots[3] else slots[4], 255]

/-- TRK_POP (R135): the sentinel and an absent note are no-ops. The index is the first that holds the note (log 17). -/
def trkPop (note : U8) (s : State) : State :=
  if note = 255 then s
  else if note ∈ heldNotes s then
    { s with
      trkSlot := removeSlot ((heldNotes s).idxOf note) s.trkSlot
      trkLen := lenAfterPop s.trkLen }
  else s

/-- What the drain does with one event word (R243). -/
def applyEvent (w : U32) (s : State) : State :=
  match evtKind w with
  | .noteOn => trkPush (pitchNote (evtPitch w)) s
  | .noteOff => trkPop (pitchNote (evtPitch w)) s
  | .ignore => s

/-! ## Meanings -/

/-- EVT_KIND (R92). -/
def execEvtKind (w : U32) (s : State) : StepOutcome := .next (returnValue (.kind (evtKind w)) s)

/-- TRK_PUSH (R131). -/
def execTrkPush (note : U8) (s : State) : StepOutcome := .next (trkPush note s)

/-- TRK_MOST_RECENT (R132). -/
def execTrkMostRecent (s : State) : StepOutcome := .next (returnValue (.note (trkMostRecent s)) s)

/-- TRK_SMALLEST (R133). -/
def execTrkSmallest (s : State) : StepOutcome := .next (returnValue (.note (trkSmallest s)) s)

/-- TRK_RIGHT_OF (R134). -/
def execTrkRightOf (x : U8) (s : State) : StepOutcome := .next (returnValue (.note (trkRightOf x s)) s)

/-- TRK_POP (R135). -/
def execTrkPop (note : U8) (s : State) : StepOutcome := .next (trkPop note s)

/-- TRK_LENGTH (R136). -/
def execTrkLength (s : State) : StepOutcome := .next (returnValue (.count (trkLength s)) s)

/-- TRK_AT (R137). -/
def execTrkAt (i : Nat) (s : State) : StepOutcome := .next (returnValue (.note (trkAt i s)) s)

end Sys2Proof.Machine
end

