-- ==== Sys2Proof/Machine/Port.lean ====
section
/-! DEFINITION. The meanings of the EVT32 rows (46_voice_and_ports.md R243), of the reserved offsets and of an illegal
access (20_memory.md R71). -/

namespace Sys2Proof.Machine

/-- NOTE_OFF, as the drain applies it: TRK_POP(pitch) (R243); the other fields affect nothing (R93). -/
def execNoteOff (_chan : BitVec 4) (pitch : BitVec 7) (_x15 : Bool) (_vel : BitVec 7) (_x23 : Bool) (_b3 : U8) (s : State) :
    StepOutcome := .next (trkPop (pitchNote pitch) s)

/-- NOTE_ON_VEL0, which acts as a note-off: TRK_POP(pitch) (R92, R243). -/
def execNoteOnVel0 (_chan : BitVec 4) (pitch : BitVec 7) (_x15 _x23 : Bool) (_b3 : U8) (s : State) : StepOutcome :=
  .next (trkPop (pitchNote pitch) s)

/-- NOTE_ON: TRK_PUSH(pitch) (R243). -/
def execNoteOn (_chan : BitVec 4) (pitch : BitVec 7) (_x15 : Bool) (_vel : BitVec 7) (_x23 : Bool) (_b3 : U8) (s : State) :
    StepOutcome := .next (trkPush (pitchNote pitch) s)

/-- EVT_IGNORE: consumed without effect (R94, R243). -/
def execEvtIgnore (_chan _status : BitVec 4) (_pitch : BitVec 7) (_x15 : Bool) (_vel : BitVec 7) (_x23 : Bool) (_b3 : U8)
    (s : State) : StepOutcome := .next s

/-- RD_RESERVED: read as zero (R71). -/
def execRdReserved (_addr : Offset) (s : State) : StepOutcome := .next (hostRead 0 s)

/-- WR_RESERVED: no effect (R71). -/
def execWrReserved (_addr : Offset) (_v : U32) (s : State) : StepOutcome := .next (hostWrote s)

/-- BUS_ERROR: the error response and the fault record (R71, R281). -/
def execBusError (a : HostAccess) (s : State) : StepOutcome := .next (hostBusError a s)

end Sys2Proof.Machine
end

