-- ==== Sys2Proof/Machine/Flags.lean ====
section
/-! DEFINITION. The status words a host reads: 30_encoding.md R107 to R112, 46_voice_and_ports.md R255 to R261. The VE has
no condition codes (R20, R30). -/

namespace Sys2Proof.Machine

/-- MBOX_STATUS (R107, R255): PENDING in bit 0. -/
def mboxStatus (s : State) : U32 := 0#31 ++ BitVec.ofBool s.mboxPending

/-- EVT_STATUS.FULL (R108). -/
def evtFull (s : State) : Bool := decide (s.evq.length = Config.evqDepth)

/-- EVT_STATUS (R257): `zext_32(length) | full << 8 | ovf << 16`. -/
def evtStatusReg (s : State) : U32 :=
  BitVec.ofNat 32 s.evq.length ||| (BitVec.ofBool (evtFull s)).zeroExtend 32 <<< 8
    ||| (BitVec.ofBool s.evqOvf).zeroExtend 32 <<< 16

/-- The code of an envelope stage (R110). -/
def stageCode : EnvStage → BitVec 3
  | .off => 0
  | .attack => 1
  | .decay => 2
  | .sustain => 3
  | .release => 4

/-- VOICE_STATUS (R109). -/
def voiceStatus (s : State) : U32 :=
  0#7 ++ BitVec.ofBool s.arpActive ++ 0#1 ++ BitVec.ofNat 3 s.trkLen.val ++ 0#1 ++ stageCode s.envStage ++ s.voiceNote
    ++ 0#7 ++ BitVec.ofBool s.voiceEn

/-- TRK_SLOTS0 (R111): slot 0 in bits 7:0. -/
def trkSlots0 (s : State) : U32 := s.trkSlot[3] ++ s.trkSlot[2] ++ s.trkSlot[1] ++ s.trkSlot[0]

/-- TRK_SLOTS1 (R111). -/
def trkSlots1 (s : State) : U32 := s.trkSlot[4].zeroExtend 32

/-- TRK_QUERY (R112, R261): the queries computed from the state at the time of the read. -/
def trkQuery (s : State) : U32 :=
  s.trkQueryArg.zeroExtend 32 ||| (trkRightOf s.trkQueryArg s).zeroExtend 32 <<< 8
    ||| (trkSmallest s).zeroExtend 32 <<< 16 ||| (trkMostRecent s).zeroExtend 32 <<< 24

end Sys2Proof.Machine
end

