-- ==== Sys2Proof/Machine/PortRegs.lean ====
section
/-! DEFINITION. The meanings of the control and status register accesses: 46_voice_and_ports.md R254 to R261, 20_memory.md R73. -/

namespace Sys2Proof.Machine

/-- WR_CFG_COMMIT: write of CFG_COMMIT, offset 0x080 (R254). -/
def execWrCfgCommit (_v : U32) (s : State) : StepOutcome := .next (hostWrote (commit s))

/-- RD_CFG_COMMIT: read of write-only CFG_COMMIT, offset 0x080 (R73). -/
def execRdCfgCommit (s : State) : StepOutcome := .next (hostRead 0 s)

/-- RD_MBOX_STATUS: read of MBOX_STATUS, offset 0x084 (R255). -/
def execRdMboxStatus (s : State) : StepOutcome := .next (hostRead (mboxStatus s) s)

/-- WR_MBOX_STATUS: write of read-only MBOX_STATUS, offset 0x084 (R73). -/
def execWrMboxStatus (_v : U32) (s : State) : StepOutcome := .next (hostWrote s)

/-- WR_EVT_PUSH: write of EVT_PUSH, offset 0x088 (R256). -/
def execWrEvtPush (v : U32) (s : State) : StepOutcome := .next (hostWrote (evtPush v s))

/-- RD_EVT_PUSH: read of write-only EVT_PUSH, offset 0x088 (R73). -/
def execRdEvtPush (s : State) : StepOutcome := .next (hostRead 0 s)

/-- RD_EVT_STATUS: read of EVT_STATUS, offset 0x08C (R257). -/
def execRdEvtStatus (s : State) : StepOutcome := .next (hostRead (evtStatusReg s) s)

/-- WR_EVT_STATUS: write of EVT_STATUS, offset 0x08C (R258). -/
def execWrEvtStatus (v : U32) (s : State) : StepOutcome := .next (hostWrote (evtStatusWrite v s))

/-- RD_VOICE_STATUS: read of VOICE_STATUS, offset 0x090 (R259). -/
def execRdVoiceStatus (s : State) : StepOutcome := .next (hostRead (voiceStatus s) s)

/-- WR_VOICE_STATUS: write of read-only VOICE_STATUS, offset 0x090 (R73). -/
def execWrVoiceStatus (_v : U32) (s : State) : StepOutcome := .next (hostWrote s)

/-- RD_ENV_VALUE: read of ENV_VALUE, offset 0x094 (R259). -/
def execRdEnvValue (s : State) : StepOutcome := .next (hostRead s.envValue s)

/-- WR_ENV_VALUE: write of read-only ENV_VALUE, offset 0x094 (R73). -/
def execWrEnvValue (_v : U32) (s : State) : StepOutcome := .next (hostWrote s)

/-- RD_ARP_COUNTER: read of ARP_COUNTER, offset 0x098 (R259). -/
def execRdArpCounter (s : State) : StepOutcome := .next (hostRead s.arpCounter s)

/-- WR_ARP_COUNTER: write of read-only ARP_COUNTER, offset 0x098 (R73). -/
def execWrArpCounter (_v : U32) (s : State) : StepOutcome := .next (hostWrote s)

/-- RD_ARP_LAST_MS: read of ARP_LAST_MS, offset 0x09C (R259). -/
def execRdArpLastMs (s : State) : StepOutcome := .next (hostRead s.arpLastMs s)

/-- WR_ARP_LAST_MS: write of read-only ARP_LAST_MS, offset 0x09C (R73). -/
def execWrArpLastMs (_v : U32) (s : State) : StepOutcome := .next (hostWrote s)

/-- RD_TRK_SLOTS0: read of TRK_SLOTS0, offset 0x0A0 (R259). -/
def execRdTrkSlots0 (s : State) : StepOutcome := .next (hostRead (trkSlots0 s) s)

/-- WR_TRK_SLOTS0: write of read-only TRK_SLOTS0, offset 0x0A0 (R73). -/
def execWrTrkSlots0 (_v : U32) (s : State) : StepOutcome := .next (hostWrote s)

/-- RD_TRK_SLOTS1: read of TRK_SLOTS1, offset 0x0A4 (R259). -/
def execRdTrkSlots1 (s : State) : StepOutcome := .next (hostRead (trkSlots1 s) s)

/-- WR_TRK_SLOTS1: write of read-only TRK_SLOTS1, offset 0x0A4 (R73). -/
def execWrTrkSlots1 (_v : U32) (s : State) : StepOutcome := .next (hostWrote s)

/-- RD_OSC_PHASE0: read of OSC_PHASE0, offset 0x0AC (R259). -/
def execRdOscPhase0 (s : State) : StepOutcome := .next (hostRead s.oscPhase[0] s)

/-- WR_OSC_PHASE0: write of read-only OSC_PHASE0, offset 0x0AC (R73). -/
def execWrOscPhase0 (_v : U32) (s : State) : StepOutcome := .next (hostWrote s)

/-- RD_OSC_PHASE1: read of OSC_PHASE1, offset 0x0B0 (R259). -/
def execRdOscPhase1 (s : State) : StepOutcome := .next (hostRead s.oscPhase[1] s)

/-- WR_OSC_PHASE1: write of read-only OSC_PHASE1, offset 0x0B0 (R73). -/
def execWrOscPhase1 (_v : U32) (s : State) : StepOutcome := .next (hostWrote s)

/-- RD_OSC_PHASE2: read of OSC_PHASE2, offset 0x0B4 (R259). -/
def execRdOscPhase2 (s : State) : StepOutcome := .next (hostRead s.oscPhase[2] s)

/-- WR_OSC_PHASE2: write of read-only OSC_PHASE2, offset 0x0B4 (R73). -/
def execWrOscPhase2 (_v : U32) (s : State) : StepOutcome := .next (hostWrote s)

/-- RD_FILT_STATE: read of FILT_STATE, offset 0x0B8 (R259). -/
def execRdFiltState (s : State) : StepOutcome := .next (hostRead s.filtS s)

/-- WR_FILT_STATE: write of read-only FILT_STATE, offset 0x0B8 (R73). -/
def execWrFiltState (_v : U32) (s : State) : StepOutcome := .next (hostWrote s)

/-- RD_FILT_FC: read of FILT_FC, offset 0x0BC (R259). -/
def execRdFiltFc (s : State) : StepOutcome := .next (hostRead s.filtFc s)

/-- WR_FILT_FC: write of read-only FILT_FC, offset 0x0BC (R73). -/
def execWrFiltFc (_v : U32) (s : State) : StepOutcome := .next (hostWrote s)

/-- RD_ENV_ARATE: read of ENV_ARATE, offset 0x0C0 (R259). -/
def execRdEnvArate (s : State) : StepOutcome := .next (hostRead s.envArate s)

/-- WR_ENV_ARATE: write of read-only ENV_ARATE, offset 0x0C0 (R73). -/
def execWrEnvArate (_v : U32) (s : State) : StepOutcome := .next (hostWrote s)

/-- RD_ENV_DRATE: read of ENV_DRATE, offset 0x0C4 (R259). -/
def execRdEnvDrate (s : State) : StepOutcome := .next (hostRead s.envDrate s)

/-- WR_ENV_DRATE: write of read-only ENV_DRATE, offset 0x0C4 (R73). -/
def execWrEnvDrate (_v : U32) (s : State) : StepOutcome := .next (hostWrote s)

/-- RD_ENV_RRATE: read of ENV_RRATE, offset 0x0C8 (R259). -/
def execRdEnvRrate (s : State) : StepOutcome := .next (hostRead s.envRrate s)

/-- WR_ENV_RRATE: write of read-only ENV_RRATE, offset 0x0C8 (R73). -/
def execWrEnvRrate (_v : U32) (s : State) : StepOutcome := .next (hostWrote s)

/-- RD_ENV_SUS: read of ENV_SUS, offset 0x0CC (R259). -/
def execRdEnvSus (s : State) : StepOutcome := .next (hostRead s.envSus s)

/-- WR_ENV_SUS: write of read-only ENV_SUS, offset 0x0CC (R73). -/
def execWrEnvSus (_v : U32) (s : State) : StepOutcome := .next (hostWrote s)

/-- WR_TRK_QUERY: write of TRK_QUERY, offset 0x0A8 (R260). -/
def execWrTrkQuery (v : U32) (s : State) : StepOutcome := .next (hostWrote (queryWrite v s))

/-- RD_TRK_QUERY: read of TRK_QUERY, offset 0x0A8 (R261). -/
def execRdTrkQuery (s : State) : StepOutcome := .next (hostRead (trkQuery s) s)

end Sys2Proof.Machine
end

