-- ==== Sys2Proof/Machine/StageRegs.lean ====
section
/-! DEFINITION. The meanings of the CFG_STAGE reads and writes: 46_voice_and_ports.md R252, R253. -/

namespace Sys2Proof.Machine

/-- WR_CFG_STAGE_ARP_CTRL: write of CFG_STAGE[0], offset 0x000 (R252). -/
def execWrCfgStageArpCtrl (v : U32) (s : State) : StepOutcome := .next (hostWrote (stageWrite 0 v s))

/-- RD_CFG_STAGE_ARP_CTRL: read of CFG_STAGE[0], offset 0x000 (R253). -/
def execRdCfgStageArpCtrl (s : State) : StepOutcome := .next (hostRead (stageRead 0 s) s)

/-- WR_CFG_STAGE_ARP_BPM: write of CFG_STAGE[1], offset 0x004 (R252). -/
def execWrCfgStageArpBpm (v : U32) (s : State) : StepOutcome := .next (hostWrote (stageWrite 1 v s))

/-- RD_CFG_STAGE_ARP_BPM: read of CFG_STAGE[1], offset 0x004 (R253). -/
def execRdCfgStageArpBpm (s : State) : StepOutcome := .next (hostRead (stageRead 1 s) s)

/-- WR_CFG_STAGE_ARP_DIV: write of CFG_STAGE[2], offset 0x008 (R252). -/
def execWrCfgStageArpDiv (v : U32) (s : State) : StepOutcome := .next (hostWrote (stageWrite 2 v s))

/-- RD_CFG_STAGE_ARP_DIV: read of CFG_STAGE[2], offset 0x008 (R253). -/
def execRdCfgStageArpDiv (s : State) : StepOutcome := .next (hostRead (stageRead 2 s) s)

/-- WR_CFG_STAGE_OSC0_CTRL: write of CFG_STAGE[3], offset 0x00C (R252). -/
def execWrCfgStageOsc0Ctrl (v : U32) (s : State) : StepOutcome := .next (hostWrote (stageWrite 3 v s))

/-- RD_CFG_STAGE_OSC0_CTRL: read of CFG_STAGE[3], offset 0x00C (R253). -/
def execRdCfgStageOsc0Ctrl (s : State) : StepOutcome := .next (hostRead (stageRead 3 s) s)

/-- WR_CFG_STAGE_OSC0_FMULT: write of CFG_STAGE[4], offset 0x010 (R252). -/
def execWrCfgStageOsc0Fmult (v : U32) (s : State) : StepOutcome := .next (hostWrote (stageWrite 4 v s))

/-- RD_CFG_STAGE_OSC0_FMULT: read of CFG_STAGE[4], offset 0x010 (R253). -/
def execRdCfgStageOsc0Fmult (s : State) : StepOutcome := .next (hostRead (stageRead 4 s) s)

/-- WR_CFG_STAGE_OSC0_GAIN: write of CFG_STAGE[5], offset 0x014 (R252). -/
def execWrCfgStageOsc0Gain (v : U32) (s : State) : StepOutcome := .next (hostWrote (stageWrite 5 v s))

/-- RD_CFG_STAGE_OSC0_GAIN: read of CFG_STAGE[5], offset 0x014 (R253). -/
def execRdCfgStageOsc0Gain (s : State) : StepOutcome := .next (hostRead (stageRead 5 s) s)

/-- WR_CFG_STAGE_OSC1_CTRL: write of CFG_STAGE[6], offset 0x018 (R252). -/
def execWrCfgStageOsc1Ctrl (v : U32) (s : State) : StepOutcome := .next (hostWrote (stageWrite 6 v s))

/-- RD_CFG_STAGE_OSC1_CTRL: read of CFG_STAGE[6], offset 0x018 (R253). -/
def execRdCfgStageOsc1Ctrl (s : State) : StepOutcome := .next (hostRead (stageRead 6 s) s)

/-- WR_CFG_STAGE_OSC1_FMULT: write of CFG_STAGE[7], offset 0x01C (R252). -/
def execWrCfgStageOsc1Fmult (v : U32) (s : State) : StepOutcome := .next (hostWrote (stageWrite 7 v s))

/-- RD_CFG_STAGE_OSC1_FMULT: read of CFG_STAGE[7], offset 0x01C (R253). -/
def execRdCfgStageOsc1Fmult (s : State) : StepOutcome := .next (hostRead (stageRead 7 s) s)

/-- WR_CFG_STAGE_OSC1_GAIN: write of CFG_STAGE[8], offset 0x020 (R252). -/
def execWrCfgStageOsc1Gain (v : U32) (s : State) : StepOutcome := .next (hostWrote (stageWrite 8 v s))

/-- RD_CFG_STAGE_OSC1_GAIN: read of CFG_STAGE[8], offset 0x020 (R253). -/
def execRdCfgStageOsc1Gain (s : State) : StepOutcome := .next (hostRead (stageRead 8 s) s)

/-- WR_CFG_STAGE_OSC2_CTRL: write of CFG_STAGE[9], offset 0x024 (R252). -/
def execWrCfgStageOsc2Ctrl (v : U32) (s : State) : StepOutcome := .next (hostWrote (stageWrite 9 v s))

/-- RD_CFG_STAGE_OSC2_CTRL: read of CFG_STAGE[9], offset 0x024 (R253). -/
def execRdCfgStageOsc2Ctrl (s : State) : StepOutcome := .next (hostRead (stageRead 9 s) s)

/-- WR_CFG_STAGE_OSC2_FMULT: write of CFG_STAGE[10], offset 0x028 (R252). -/
def execWrCfgStageOsc2Fmult (v : U32) (s : State) : StepOutcome := .next (hostWrote (stageWrite 10 v s))

/-- RD_CFG_STAGE_OSC2_FMULT: read of CFG_STAGE[10], offset 0x028 (R253). -/
def execRdCfgStageOsc2Fmult (s : State) : StepOutcome := .next (hostRead (stageRead 10 s) s)

/-- WR_CFG_STAGE_OSC2_GAIN: write of CFG_STAGE[11], offset 0x02C (R252). -/
def execWrCfgStageOsc2Gain (v : U32) (s : State) : StepOutcome := .next (hostWrote (stageWrite 11 v s))

/-- RD_CFG_STAGE_OSC2_GAIN: read of CFG_STAGE[11], offset 0x02C (R253). -/
def execRdCfgStageOsc2Gain (s : State) : StepOutcome := .next (hostRead (stageRead 11 s) s)

/-- WR_CFG_STAGE_ENV_ATTACK: write of CFG_STAGE[12], offset 0x030 (R252). -/
def execWrCfgStageEnvAttack (v : U32) (s : State) : StepOutcome := .next (hostWrote (stageWrite 12 v s))

/-- RD_CFG_STAGE_ENV_ATTACK: read of CFG_STAGE[12], offset 0x030 (R253). -/
def execRdCfgStageEnvAttack (s : State) : StepOutcome := .next (hostRead (stageRead 12 s) s)

/-- WR_CFG_STAGE_ENV_DECAY: write of CFG_STAGE[13], offset 0x034 (R252). -/
def execWrCfgStageEnvDecay (v : U32) (s : State) : StepOutcome := .next (hostWrote (stageWrite 13 v s))

/-- RD_CFG_STAGE_ENV_DECAY: read of CFG_STAGE[13], offset 0x034 (R253). -/
def execRdCfgStageEnvDecay (s : State) : StepOutcome := .next (hostRead (stageRead 13 s) s)

/-- WR_CFG_STAGE_ENV_SUSTAIN: write of CFG_STAGE[14], offset 0x038 (R252). -/
def execWrCfgStageEnvSustain (v : U32) (s : State) : StepOutcome := .next (hostWrote (stageWrite 14 v s))

/-- RD_CFG_STAGE_ENV_SUSTAIN: read of CFG_STAGE[14], offset 0x038 (R253). -/
def execRdCfgStageEnvSustain (s : State) : StepOutcome := .next (hostRead (stageRead 14 s) s)

/-- WR_CFG_STAGE_ENV_RELEASE: write of CFG_STAGE[15], offset 0x03C (R252). -/
def execWrCfgStageEnvRelease (v : U32) (s : State) : StepOutcome := .next (hostWrote (stageWrite 15 v s))

/-- RD_CFG_STAGE_ENV_RELEASE: read of CFG_STAGE[15], offset 0x03C (R253). -/
def execRdCfgStageEnvRelease (s : State) : StepOutcome := .next (hostRead (stageRead 15 s) s)

/-- WR_CFG_STAGE_BOOST_PRE: write of CFG_STAGE[16], offset 0x040 (R252). -/
def execWrCfgStageBoostPre (v : U32) (s : State) : StepOutcome := .next (hostWrote (stageWrite 16 v s))

/-- RD_CFG_STAGE_BOOST_PRE: read of CFG_STAGE[16], offset 0x040 (R253). -/
def execRdCfgStageBoostPre (s : State) : StepOutcome := .next (hostRead (stageRead 16 s) s)

/-- WR_CFG_STAGE_BOOST_POST: write of CFG_STAGE[17], offset 0x044 (R252). -/
def execWrCfgStageBoostPost (v : U32) (s : State) : StepOutcome := .next (hostWrote (stageWrite 17 v s))

/-- RD_CFG_STAGE_BOOST_POST: read of CFG_STAGE[17], offset 0x044 (R253). -/
def execRdCfgStageBoostPost (s : State) : StepOutcome := .next (hostRead (stageRead 17 s) s)

/-- WR_CFG_STAGE_FILT_CTRL: write of CFG_STAGE[18], offset 0x048 (R252). -/
def execWrCfgStageFiltCtrl (v : U32) (s : State) : StepOutcome := .next (hostWrote (stageWrite 18 v s))

/-- RD_CFG_STAGE_FILT_CTRL: read of CFG_STAGE[18], offset 0x048 (R253). -/
def execRdCfgStageFiltCtrl (s : State) : StepOutcome := .next (hostRead (stageRead 18 s) s)

/-- WR_CFG_STAGE_FILT_CUTOFF: write of CFG_STAGE[19], offset 0x04C (R252). -/
def execWrCfgStageFiltCutoff (v : U32) (s : State) : StepOutcome := .next (hostWrote (stageWrite 19 v s))

/-- RD_CFG_STAGE_FILT_CUTOFF: read of CFG_STAGE[19], offset 0x04C (R253). -/
def execRdCfgStageFiltCutoff (s : State) : StepOutcome := .next (hostRead (stageRead 19 s) s)

/-- WR_CFG_STAGE_FILT_RES: write of CFG_STAGE[20], offset 0x050 (R252). -/
def execWrCfgStageFiltRes (v : U32) (s : State) : StepOutcome := .next (hostWrote (stageWrite 20 v s))

/-- RD_CFG_STAGE_FILT_RES: read of CFG_STAGE[20], offset 0x050 (R253). -/
def execRdCfgStageFiltRes (s : State) : StepOutcome := .next (hostRead (stageRead 20 s) s)

/-- WR_CFG_STAGE_FILT_CONTOUR: write of CFG_STAGE[21], offset 0x054 (R252). -/
def execWrCfgStageFiltContour (v : U32) (s : State) : StepOutcome := .next (hostWrote (stageWrite 21 v s))

/-- RD_CFG_STAGE_FILT_CONTOUR: read of CFG_STAGE[21], offset 0x054 (R253). -/
def execRdCfgStageFiltContour (s : State) : StepOutcome := .next (hostRead (stageRead 21 s) s)

end Sys2Proof.Machine
end

