-- ==== Sys2Proof/Machine/Arpeggiator.lean ====
section
/-! DEFINITION. The arpeggiator: 41_arpeggiator.md R150 to R153. -/

namespace Sys2Proof.Machine

/-- ARP_PERIOD (R150): the product is exact, the division floors; a zero product is NEVER. -/
def arpPeriod (a : ArpCfg) : Period :=
  if a.bpm.toNat * a.div.toNat = 0 then .never else .ms (60000 / (a.bpm.toNat * a.div.toNat))

/-- Whether the period has run out at `now`: elapsed time modulo 2^32 (R151). -/
def arpDue (a : ArpCfg) (now : U32) (s : State) : Bool :=
  match arpPeriod a with
  | .never => false
  | .ms p => decide (p ≤ (now - s.arpLastMs).toNat)

/-- ARP_STEP (R151): activation, one advance, or nothing; the value returned says whether it advanced. -/
def arpStep (a : ArpCfg) (now : U32) (s : State) : Bool × State :=
  if s.arpActive = false then (true, { s with arpActive := true, arpLastMs := now, arpCounter := 0 })
  else if arpDue a now s then (true, { s with arpCounter := s.arpCounter + 1, arpLastMs := now })
  else (false, s)

/-- ARP_CLEAR (R152). -/
def arpClear (s : State) : State := { s with arpActive := false, arpCounter := 0, arpLastMs := 0 }

/-- ARP_INDEX (R153), defined for a positive length; a free value on an empty tracker (log 11). -/
def arpIndex (s : State) : Nat :=
  if s.trkLen = 0 then Config.arpIndexOfEmpty s.arpCounter else s.arpCounter.toNat % s.trkLen.val

/-! ## Meanings -/

/-- ARP_PERIOD (R150). -/
def execArpPeriod (a : ArpCfg) (s : State) : StepOutcome := .next (returnValue (.period (arpPeriod a)) s)

/-- ARP_STEP (R151). -/
def execArpStep (a : ArpCfg) (now : U32) (s : State) : StepOutcome :=
  .next (returnValue (.flag (arpStep a now s).1) (arpStep a now s).2)

/-- ARP_CLEAR (R152). -/
def execArpClear (s : State) : StepOutcome := .next (arpClear s)

/-- ARP_INDEX (R153). -/
def execArpIndex (s : State) : StepOutcome := .next (returnValue (.count (arpIndex s)) s)

end Sys2Proof.Machine
end

