-- ==== Sys2Proof/Machine/Envelope.lean ====
section
/-! DEFINITION. The envelope generator: 43_envelope.md R190 to R198. -/

namespace Sys2Proof.Machine

/-- The rate of a duration (R190): `1.0 / (fmax(d, ENV_MIN_DURATION) * SR_F)`. -/
def envRate (d : F32) : F32 := fDiv fOne (fMul (fMax d envMinDuration) srF)

/-- ENV_SET_RATES (R190). -/
def envSetRates (e : EnvCfg) (s : State) : State :=
  { s with envArate := envRate e.attack, envDrate := envRate e.decay, envRrate := envRate e.release, envSus := e.sustain }

/-- Stage Off (R192): nothing changes. -/
def envStageOff (s : State) : State := s

/-- Stage Attack (R193): up to exactly 1.0, then Decay. -/
def envStageAttack (s : State) : State :=
  let v := fAdd s.envValue s.envArate
  if fLe fOne v then { s with envValue := fOne, envStage := .decay } else { s with envValue := v }

/-- Stage Decay (R194): down to exactly the sustain level, then Sustain. -/
def envStageDecay (s : State) : State :=
  let v := fSub s.envValue s.envDrate
  if fLe v s.envSus then { s with envValue := s.envSus, envStage := .sustain } else { s with envValue := v }

/-- Stage Sustain (R195): nothing changes, whatever the sustain level becomes. -/
def envStageSustain (s : State) : State := s

/-- Stage Release (R196): down to exactly +0.0, then Off. -/
def envStageRelease (s : State) : State :=
  let v := fSub s.envValue s.envRrate
  if fLe v fZero then { s with envValue := fZero, envStage := .off } else { s with envValue := v }

/-- The state after ENV_STEP (R191). -/
def envStep (s : State) : State :=
  match s.envStage with
  | .off => envStageOff s
  | .attack => envStageAttack s
  | .decay => envStageDecay s
  | .sustain => envStageSustain s
  | .release => envStageRelease s

/-- ENV_TRIGGER_ON (R197): the stage alone. -/
def envTriggerOn (s : State) : State := { s with envStage := .attack }

/-- ENV_TRIGGER_OFF (R198): the stage alone. -/
def envTriggerOff (s : State) : State := { s with envStage := .release }

/-! ## Meanings -/

/-- ENV_SET_RATES (R190). -/
def execEnvSetRates (e : EnvCfg) (s : State) : StepOutcome := .next (envSetRates e s)

/-- ENV_STEP (R191): returns the value after the update. -/
def execEnvStep (s : State) : StepOutcome := .next (returnValue (.sample (envStep s).envValue) (envStep s))

/-- ENV_STAGE_OFF (R192). -/
def execEnvStageOff (s : State) : StepOutcome := .next (envStageOff s)

/-- ENV_STAGE_ATTACK (R193). -/
def execEnvStageAttack (s : State) : StepOutcome := .next (envStageAttack s)

/-- ENV_STAGE_DECAY (R194). -/
def execEnvStageDecay (s : State) : StepOutcome := .next (envStageDecay s)

/-- ENV_STAGE_SUSTAIN (R195). -/
def execEnvStageSustain (s : State) : StepOutcome := .next (envStageSustain s)

/-- ENV_STAGE_RELEASE (R196). -/
def execEnvStageRelease (s : State) : StepOutcome := .next (envStageRelease s)

/-- ENV_TRIGGER_ON (R197). -/
def execEnvTriggerOn (s : State) : StepOutcome := .next (envTriggerOn s)

/-- ENV_TRIGGER_OFF (R198). -/
def execEnvTriggerOff (s : State) : StepOutcome := .next (envTriggerOff s)

end Sys2Proof.Machine
end

