-- ==== Sys2Proof/Machine/Filter.lean ====
section
/-! DEFINITION. The low-pass filter: 44_filter.md R210 to R216. -/

namespace Sys2Proof.Machine

/-- FILT_TARGET (R210). -/
def filtTarget (c : FiltCfg) (e : F32) : F32 :=
  fClamp (if c.contourEn then fAdd c.cutoff (fMul c.contour e) else c.cutoff) fcMinF fcMaxF

/-- The cutoff one sample nearer its target (R211): `fc + SMOOTH_A * (t - fc)`. -/
def smoothed (fc t : F32) : F32 := fAdd fc (fMul smoothA (fSub t fc))

/-- FILT_SMOOTH (R211). -/
def filtSmooth (t : F32) (s : State) : State := { s with filtFc := smoothed s.filtFc t }

/-- FILT_K (R213). -/
def filtK (c : FiltCfg) : F32 := fClamp c.res fZero fOne

/-- `g / (1.0 + g)` (R214). -/
def integratorGain (g : F32) : F32 := fDiv g (fAdd fOne g)

/-- The output `y` of the filter equation (R214). -/
def filtOutput (gain k x mem : F32) : F32 := fDiv (fAdd (fMul gain (fSub x mem)) mem) (fAdd fOne (fMul gain k))

/-- FILT_SAMPLE (R214) for a given tangent: the sample returned, and the state. -/
def filtSampleWith (tan : F32 → F32) (x e : F32) (s : State) : F32 × State :=
  let s1 := filtSmooth (filtTarget s.cfgActive.filt e) s
  let gain := integratorGain (tan (fDiv (fMul piF s1.filtFc) srF))
  let y := filtOutput gain (filtK s1.cfgActive.filt) x s1.filtS
  (y, { s1 with filtS := fAdd y (fSub y s1.filtS) })

/-! ## Meanings -/

/-- FILT_TARGET (R210). -/
def execFiltTarget (c : FiltCfg) (e : F32) (s : State) : StepOutcome := .next (returnValue (.sample (filtTarget c e)) s)

/-- FILT_SMOOTH (R211). -/
def execFiltSmooth (t : F32) (s : State) : StepOutcome := .next (filtSmooth t s)

/-- FILT_K (R213). -/
def execFiltK (c : FiltCfg) (s : State) : StepOutcome := .next (returnValue (.sample (filtK c)) s)

/-- FILT_SAMPLE (R214), with NUM_TAN (log 7). -/
def execFiltSample (x e : F32) (s : State) : StepOutcome :=
  .next (returnValue (.sample (filtSampleWith Config.numTan x e s).1) (filtSampleWith Config.numTan x e s).2)

end Sys2Proof.Machine
end

