-- ==== Sys2Proof/Machine/Oscillator.lean ====
section
/-! DEFINITION. Oscillators and waveform table: 42_oscillator.md R171 to R179. -/

namespace Sys2Proof.Machine

/-- NOTE_HZ (R170): the table below 128, a free value for 128..254 (log 12). -/
def noteHz (note : U8) : F32 := (noteHzTable[note.toNat]?).getD (Config.noteHzBeyond note)

/-- DT (R171). -/
def dtOf (note : U8) : F32 := if note = 255 then fZero else fDiv (noteHz note) srF

/-- The table index of a phase: `floor(p * 256.0)` (R173). -/
def sineIndex (p : F32) : Int := fToInt (fFloor (fMul p f256))

/-- WAVE_SINE (R173): no interpolation; a free value outside the table (log 13). -/
def waveSine (p : F32) : F32 :=
  if sineIndex p < 0 then Config.sineBeyond p
  else (sineTable[(sineIndex p).toNat]?).getD (Config.sineBeyond p)

/-- WAVE_SAW (R174). -/
def waveSaw (p : F32) : F32 := fSub (fMul fTwo p) fOne

/-- WAVE_SQUARE (R175). -/
def waveSquare (p : F32) : F32 := if fLt p fHalf then fOne else fNegOne

/-- WAVE_TRIANGLE (R176). -/
def waveTriangle (p : F32) : F32 :=
  if fLt p fHalf then fSub (fMul fFour p) fOne else fSub fThree (fMul fFour p)

/-- WAVE (R172), by the codes of R113. -/
def waveAt (sel : BitVec 2) (p : F32) : F32 :=
  if sel = 0 then waveSine p
  else if sel = 1 then waveSaw p
  else if sel = 2 then waveSquare p
  else waveTriangle p

/-- The fractional part `t - floor(t)`, with 1.0 and -0.0 folded to +0.0 (R178, D8). -/
def wrapPhase (t : F32) : F32 :=
  let f := fSub t (fFloor t)
  let f1 := if fEq f fOne then fZero else f
  if fEq f1 fZero then fZero else f1

/-- The phase after one sample (R178). -/
def nextPhase (phase dt fmult : F32) : F32 := wrapPhase (fAdd phase (fMul dt fmult))

/-- OSC_STEP (R178): the sample, taken at the new phase, and the state; a disabled oscillator returns +0.0 and keeps its phase. -/
def oscStep (i : Fin 3) (dt : F32) (s : State) : F32 × State :=
  if (s.cfgActive.osc[i]).en then
    (fMul (waveAt (s.cfgActive.osc[i]).wave (nextPhase s.oscPhase[i] dt (s.cfgActive.osc[i]).fmult)) (s.cfgActive.osc[i]).gain,
      { s with oscPhase := s.oscPhase.set i (nextPhase s.oscPhase[i] dt (s.cfgActive.osc[i]).fmult) })
  else (fZero, s)

/-! ## Meanings -/

/-- DT (R171). -/
def execDt (note : U8) (s : State) : StepOutcome := .next (returnValue (.sample (dtOf note)) s)

/-- WAVE (R172). -/
def execWave (sel : BitVec 2) (p : F32) (s : State) : StepOutcome := .next (returnValue (.sample (waveAt sel p)) s)

/-- WAVE_SINE (R173). -/
def execWaveSine (p : F32) (s : State) : StepOutcome := .next (returnValue (.sample (waveSine p)) s)

/-- WAVE_SAW (R174). -/
def execWaveSaw (p : F32) (s : State) : StepOutcome := .next (returnValue (.sample (waveSaw p)) s)

/-- WAVE_SQUARE (R175). -/
def execWaveSquare (p : F32) (s : State) : StepOutcome := .next (returnValue (.sample (waveSquare p)) s)

/-- WAVE_TRIANGLE (R176). -/
def execWaveTriangle (p : F32) (s : State) : StepOutcome := .next (returnValue (.sample (waveTriangle p)) s)

/-- OSC_STEP (R178). -/
def execOscStep (i : Fin 3) (dt : F32) (s : State) : StepOutcome :=
  .next (returnValue (.sample (oscStep i dt s).1) (oscStep i dt s).2)

end Sys2Proof.Machine
end

