-- ==== Sys2Proof/Machine/Saturation.lean ====
section
/-! DEFINITION. Saturation and boost: 45_saturation.md R230 to R232. -/

namespace Sys2Proof.Machine

/-- SAT_HARD (R230). -/
def satHard (x : F32) : F32 :=
  let c := fClamp x (fNeg satLim) satLim
  let x2 := fMul c c
  fDiv (fMul c (fAdd fTwentySeven x2)) (fAdd fTwentySeven (fMul fNine x2))

/-- SAT_SOFT (R231); it has no caller on the datapath (D25). -/
def satSoft (x : F32) : F32 := fDiv x (fAdd fOne (fAbs x))

/-- BOOST_CHAIN (R232) of a boost configuration. -/
def boostChain (b : BoostCfg) (x : F32) : F32 := satHard (fMul (satHard (fMul x b.pre)) b.post)

/-! ## Meanings -/

/-- SAT_HARD (R230). -/
def execSatHard (x : F32) (s : State) : StepOutcome := .next (returnValue (.sample (satHard x)) s)

/-- SAT_SOFT (R231). -/
def execSatSoft (x : F32) (s : State) : StepOutcome := .next (returnValue (.sample (satSoft x)) s)

/-- BOOST_CHAIN (R232), with the active configuration. -/
def execBoostChain (x : F32) (s : State) : StepOutcome :=
  .next (returnValue (.sample (boostChain s.cfgActive.boost x)) s)

end Sys2Proof.Machine
end

