-- ==== Sys2Proof/Machine/Voice.lean ====
section
/-! DEFINITION. The voice orchestrator: 46_voice_and_ports.md R241 to R251. BLOCK_SIZE and NUM_TAN are arguments (R10,
R15); the meanings pass the constants of Config. -/

namespace Sys2Proof.Machine

/-- ADOPT (R242), step 1: a pending configuration is consumed, and adopted if legal. -/
def adopt (s : State) : State :=
  if s.mboxPending then
    if legal s.mboxSlot then { s with mboxPending := false, cfgActive := s.mboxSlot }
    else raiseFault (.illegalConfig s.mboxSlot) { s with mboxPending := false }
  else s

/-- The loop of DRAIN (R243) over the words still queued. -/
def drainWords : List U32 → State → State
  | [], s => s
  | w :: rest, s => drainWords rest (applyEvent w { s with evq := rest })

/-- DRAIN (R243), step 2. -/
def drain (s : State) : State := drainWords s.evq s

/-- EMPTY_VOICE (R245), step 3. -/
def emptyVoice (s : State) : State :=
  arpClear (if s.voiceEn then envTriggerOff { s with voiceEn := false } else s)

/-- SELECT_NOTE (R246), step 4: the note and the state. -/
def selectNote (now : U32) (s : State) : U8 × State :=
  if s.cfgActive.arp.en then
    let s1 := (arpStep s.cfgActive.arp now s).2
    (trkAt (arpIndex s1) s1, s1)
  else (trkMostRecent s, s)

/-- RETRIGGER (R247), step 5. -/
def retrigger (n : U8) (s : State) : State :=
  if n ≠ s.voiceNote ∨ s.voiceEn = false then envTriggerOn { s with voiceEn := true, voiceNote := n } else s

/-- The note-selection step and its two arms (R244). -/
def chooseNote (now : U32) (s : State) : State :=
  if s.trkLen = 0 then emptyVoice s else retrigger (selectNote now s).1 (selectNote now s).2

/-- Step 6 (R248): the envelope rates of the active configuration. -/
def setRatesStep (s : State) : State := envSetRates s.cfgActive.env s

/-- The three oscillator steps in the order 0, 1, 2, summed as `(o0 + o1) + o2` (R250, D42). -/
def mixOscillators (dt : F32) (s : State) : F32 × State :=
  let a := oscStep 0 dt s
  let b := oscStep 1 dt a.2
  let c := oscStep 2 dt b.2
  (fAdd (fAdd a.1 b.1) c.1, c.2)

/-- The filter where it is enabled, the sample unchanged where it is bypassed (R250, R215). -/
def filterStage (tan : F32 → F32) (x e : F32) (s : State) : F32 × State :=
  if s.cfgActive.filt.en then filtSampleWith tan x e s else (x, s)

/-- SAMPLE (R250), steps 7 and 8, for a given tangent. -/
def sampleWith (tan : F32 → F32) (dt : F32) (s : State) : State :=
  let m := mixOscillators dt s
  let s1 := envStep m.2
  let boosted := boostChain s1.cfgActive.boost (fMul m.1 s1.envValue)
  let y := filterStage tan boosted s1.envValue s1
  emit (fClamp y.1 fNegOne fOne) y.2

/-- SAMPLE, `n` times (R241). -/
def samplesWith (tan : F32 → F32) (dt : F32) : Nat → State → State
  | 0, s => s
  | n + 1, s => samplesWith tan dt n (sampleWith tan dt s)

/-- Steps 1 to 6 of a tick: all of it but the samples (R241). -/
def tickControl (now : U32) (s : State) : State := setRatesStep (chooseNote now (drain (adopt s)))

/-- Tick (R241) for a given BLOCK_SIZE and tangent; `dt` is evaluated once (R249). -/
def tickWith (blockSize : Nat) (tan : F32 → F32) (now : U32) (s : State) : State :=
  samplesWith tan (dtOf (tickControl now s).voiceNote) blockSize (tickControl now s)

/-! ## Meanings -/

/-- ADOPT (R242). -/
def execAdopt (s : State) : StepOutcome := .next (adopt s)

/-- DRAIN (R243). -/
def execDrain (s : State) : StepOutcome := .next (drain s)

/-- EMPTY_VOICE (R245). -/
def execEmptyVoice (s : State) : StepOutcome := .next (emptyVoice s)

/-- SELECT_NOTE (R246). -/
def execSelectNote (now : U32) (s : State) : StepOutcome :=
  .next (returnValue (.note (selectNote now s).1) (selectNote now s).2)

/-- RETRIGGER (R247). -/
def execRetrigger (n : U8) (s : State) : StepOutcome := .next (retrigger n s)

/-- SET_RATES_STEP (R248). -/
def execSetRatesStep (s : State) : StepOutcome := .next (setRatesStep s)

/-- SAMPLE (R250), with NUM_TAN (log 7). -/
def execSample (dt : F32) (s : State) : StepOutcome := .next (sampleWith Config.numTan dt s)

/-- EMIT (R251). -/
def execEmit (x : F32) (s : State) : StepOutcome := .next (emit x s)

/-- TICK (R241), one indivisible step (R74), with BLOCK_SIZE and NUM_TAN (log 6, log 7). -/
def execTick (now : U32) (s : State) : StepOutcome := .next (tickWith Config.blockSize Config.numTan now s)

end Sys2Proof.Machine
end

