-- ==== Sys2Proof/Machine/Dispatch.lean ====
section
/-! DEFINITION. One arm for each instruction, each one call of its meaning. -/

namespace Sys2Proof.Machine

def exec (i : Instr) (s : State) : Host.Outcome State Fault Refusal :=
  match i with
  | .noteOff chan pitch x15 vel x23 b3 => Sys2Proof.Machine.execNoteOff chan pitch x15 vel x23 b3 s
  | .noteOnVel0 chan pitch x15 x23 b3 => Sys2Proof.Machine.execNoteOnVel0 chan pitch x15 x23 b3 s
  | .noteOn chan pitch x15 vel x23 b3 => Sys2Proof.Machine.execNoteOn chan pitch x15 vel x23 b3 s
  | .evtIgnore chan status pitch x15 vel x23 b3 => Sys2Proof.Machine.execEvtIgnore chan status pitch x15 vel x23 b3 s
  | .wrCfgStageArpCtrl v => Sys2Proof.Machine.execWrCfgStageArpCtrl v s
  | .rdCfgStageArpCtrl => Sys2Proof.Machine.execRdCfgStageArpCtrl s
  | .wrCfgStageArpBpm v => Sys2Proof.Machine.execWrCfgStageArpBpm v s
  | .rdCfgStageArpBpm => Sys2Proof.Machine.execRdCfgStageArpBpm s
  | .wrCfgStageArpDiv v => Sys2Proof.Machine.execWrCfgStageArpDiv v s
  | .rdCfgStageArpDiv => Sys2Proof.Machine.execRdCfgStageArpDiv s
  | .wrCfgStageOsc0Ctrl v => Sys2Proof.Machine.execWrCfgStageOsc0Ctrl v s
  | .rdCfgStageOsc0Ctrl => Sys2Proof.Machine.execRdCfgStageOsc0Ctrl s
  | .wrCfgStageOsc0Fmult v => Sys2Proof.Machine.execWrCfgStageOsc0Fmult v s
  | .rdCfgStageOsc0Fmult => Sys2Proof.Machine.execRdCfgStageOsc0Fmult s
  | .wrCfgStageOsc0Gain v => Sys2Proof.Machine.execWrCfgStageOsc0Gain v s
  | .rdCfgStageOsc0Gain => Sys2Proof.Machine.execRdCfgStageOsc0Gain s
  | .wrCfgStageOsc1Ctrl v => Sys2Proof.Machine.execWrCfgStageOsc1Ctrl v s
  | .rdCfgStageOsc1Ctrl => Sys2Proof.Machine.execRdCfgStageOsc1Ctrl s
  | .wrCfgStageOsc1Fmult v => Sys2Proof.Machine.execWrCfgStageOsc1Fmult v s
  | .rdCfgStageOsc1Fmult => Sys2Proof.Machine.execRdCfgStageOsc1Fmult s
  | .wrCfgStageOsc1Gain v => Sys2Proof.Machine.execWrCfgStageOsc1Gain v s
  | .rdCfgStageOsc1Gain => Sys2Proof.Machine.execRdCfgStageOsc1Gain s
  | .wrCfgStageOsc2Ctrl v => Sys2Proof.Machine.execWrCfgStageOsc2Ctrl v s
  | .rdCfgStageOsc2Ctrl => Sys2Proof.Machine.execRdCfgStageOsc2Ctrl s
  | .wrCfgStageOsc2Fmult v => Sys2Proof.Machine.execWrCfgStageOsc2Fmult v s
  | .rdCfgStageOsc2Fmult => Sys2Proof.Machine.execRdCfgStageOsc2Fmult s
  | .wrCfgStageOsc2Gain v => Sys2Proof.Machine.execWrCfgStageOsc2Gain v s
  | .rdCfgStageOsc2Gain => Sys2Proof.Machine.execRdCfgStageOsc2Gain s
  | .wrCfgStageEnvAttack v => Sys2Proof.Machine.execWrCfgStageEnvAttack v s
  | .rdCfgStageEnvAttack => Sys2Proof.Machine.execRdCfgStageEnvAttack s
  | .wrCfgStageEnvDecay v => Sys2Proof.Machine.execWrCfgStageEnvDecay v s
  | .rdCfgStageEnvDecay => Sys2Proof.Machine.execRdCfgStageEnvDecay s
  | .wrCfgStageEnvSustain v => Sys2Proof.Machine.execWrCfgStageEnvSustain v s
  | .rdCfgStageEnvSustain => Sys2Proof.Machine.execRdCfgStageEnvSustain s
  | .wrCfgStageEnvRelease v => Sys2Proof.Machine.execWrCfgStageEnvRelease v s
  | .rdCfgStageEnvRelease => Sys2Proof.Machine.execRdCfgStageEnvRelease s
  | .wrCfgStageBoostPre v => Sys2Proof.Machine.execWrCfgStageBoostPre v s
  | .rdCfgStageBoostPre => Sys2Proof.Machine.execRdCfgStageBoostPre s
  | .wrCfgStageBoostPost v => Sys2Proof.Machine.execWrCfgStageBoostPost v s
  | .rdCfgStageBoostPost => Sys2Proof.Machine.execRdCfgStageBoostPost s
  | .wrCfgStageFiltCtrl v => Sys2Proof.Machine.execWrCfgStageFiltCtrl v s
  | .rdCfgStageFiltCtrl => Sys2Proof.Machine.execRdCfgStageFiltCtrl s
  | .wrCfgStageFiltCutoff v => Sys2Proof.Machine.execWrCfgStageFiltCutoff v s
  | .rdCfgStageFiltCutoff => Sys2Proof.Machine.execRdCfgStageFiltCutoff s
  | .wrCfgStageFiltRes v => Sys2Proof.Machine.execWrCfgStageFiltRes v s
  | .rdCfgStageFiltRes => Sys2Proof.Machine.execRdCfgStageFiltRes s
  | .wrCfgStageFiltContour v => Sys2Proof.Machine.execWrCfgStageFiltContour v s
  | .rdCfgStageFiltContour => Sys2Proof.Machine.execRdCfgStageFiltContour s
  | .rdCfgActiveArpCtrl => Sys2Proof.Machine.execRdCfgActiveArpCtrl s
  | .wrCfgActiveArpCtrl v => Sys2Proof.Machine.execWrCfgActiveArpCtrl v s
  | .rdCfgActiveArpBpm => Sys2Proof.Machine.execRdCfgActiveArpBpm s
  | .wrCfgActiveArpBpm v => Sys2Proof.Machine.execWrCfgActiveArpBpm v s
  | .rdCfgActiveArpDiv => Sys2Proof.Machine.execRdCfgActiveArpDiv s
  | .wrCfgActiveArpDiv v => Sys2Proof.Machine.execWrCfgActiveArpDiv v s
  | .rdCfgActiveOsc0Ctrl => Sys2Proof.Machine.execRdCfgActiveOsc0Ctrl s
  | .wrCfgActiveOsc0Ctrl v => Sys2Proof.Machine.execWrCfgActiveOsc0Ctrl v s
  | .rdCfgActiveOsc0Fmult => Sys2Proof.Machine.execRdCfgActiveOsc0Fmult s
  | .wrCfgActiveOsc0Fmult v => Sys2Proof.Machine.execWrCfgActiveOsc0Fmult v s
  | .rdCfgActiveOsc0Gain => Sys2Proof.Machine.execRdCfgActiveOsc0Gain s
  | .wrCfgActiveOsc0Gain v => Sys2Proof.Machine.execWrCfgActiveOsc0Gain v s
  | .rdCfgActiveOsc1Ctrl => Sys2Proof.Machine.execRdCfgActiveOsc1Ctrl s
  | .wrCfgActiveOsc1Ctrl v => Sys2Proof.Machine.execWrCfgActiveOsc1Ctrl v s
  | .rdCfgActiveOsc1Fmult => Sys2Proof.Machine.execRdCfgActiveOsc1Fmult s
  | .wrCfgActiveOsc1Fmult v => Sys2Proof.Machine.execWrCfgActiveOsc1Fmult v s
  | .rdCfgActiveOsc1Gain => Sys2Proof.Machine.execRdCfgActiveOsc1Gain s
  | .wrCfgActiveOsc1Gain v => Sys2Proof.Machine.execWrCfgActiveOsc1Gain v s
  | .rdCfgActiveOsc2Ctrl => Sys2Proof.Machine.execRdCfgActiveOsc2Ctrl s
  | .wrCfgActiveOsc2Ctrl v => Sys2Proof.Machine.execWrCfgActiveOsc2Ctrl v s
  | .rdCfgActiveOsc2Fmult => Sys2Proof.Machine.execRdCfgActiveOsc2Fmult s
  | .wrCfgActiveOsc2Fmult v => Sys2Proof.Machine.execWrCfgActiveOsc2Fmult v s
  | .rdCfgActiveOsc2Gain => Sys2Proof.Machine.execRdCfgActiveOsc2Gain s
  | .wrCfgActiveOsc2Gain v => Sys2Proof.Machine.execWrCfgActiveOsc2Gain v s
  | .rdCfgActiveEnvAttack => Sys2Proof.Machine.execRdCfgActiveEnvAttack s
  | .wrCfgActiveEnvAttack v => Sys2Proof.Machine.execWrCfgActiveEnvAttack v s
  | .rdCfgActiveEnvDecay => Sys2Proof.Machine.execRdCfgActiveEnvDecay s
  | .wrCfgActiveEnvDecay v => Sys2Proof.Machine.execWrCfgActiveEnvDecay v s
  | .rdCfgActiveEnvSustain => Sys2Proof.Machine.execRdCfgActiveEnvSustain s
  | .wrCfgActiveEnvSustain v => Sys2Proof.Machine.execWrCfgActiveEnvSustain v s
  | .rdCfgActiveEnvRelease => Sys2Proof.Machine.execRdCfgActiveEnvRelease s
  | .wrCfgActiveEnvRelease v => Sys2Proof.Machine.execWrCfgActiveEnvRelease v s
  | .rdCfgActiveBoostPre => Sys2Proof.Machine.execRdCfgActiveBoostPre s
  | .wrCfgActiveBoostPre v => Sys2Proof.Machine.execWrCfgActiveBoostPre v s
  | .rdCfgActiveBoostPost => Sys2Proof.Machine.execRdCfgActiveBoostPost s
  | .wrCfgActiveBoostPost v => Sys2Proof.Machine.execWrCfgActiveBoostPost v s
  | .rdCfgActiveFiltCtrl => Sys2Proof.Machine.execRdCfgActiveFiltCtrl s
  | .wrCfgActiveFiltCtrl v => Sys2Proof.Machine.execWrCfgActiveFiltCtrl v s
  | .rdCfgActiveFiltCutoff => Sys2Proof.Machine.execRdCfgActiveFiltCutoff s
  | .wrCfgActiveFiltCutoff v => Sys2Proof.Machine.execWrCfgActiveFiltCutoff v s
  | .rdCfgActiveFiltRes => Sys2Proof.Machine.execRdCfgActiveFiltRes s
  | .wrCfgActiveFiltRes v => Sys2Proof.Machine.execWrCfgActiveFiltRes v s
  | .rdCfgActiveFiltContour => Sys2Proof.Machine.execRdCfgActiveFiltContour s
  | .wrCfgActiveFiltContour v => Sys2Proof.Machine.execWrCfgActiveFiltContour v s
  | .wrCfgCommit v => Sys2Proof.Machine.execWrCfgCommit v s
  | .rdCfgCommit => Sys2Proof.Machine.execRdCfgCommit s
  | .rdMboxStatus => Sys2Proof.Machine.execRdMboxStatus s
  | .wrMboxStatus v => Sys2Proof.Machine.execWrMboxStatus v s
  | .wrEvtPush v => Sys2Proof.Machine.execWrEvtPush v s
  | .rdEvtPush => Sys2Proof.Machine.execRdEvtPush s
  | .rdEvtStatus => Sys2Proof.Machine.execRdEvtStatus s
  | .wrEvtStatus v => Sys2Proof.Machine.execWrEvtStatus v s
  | .rdVoiceStatus => Sys2Proof.Machine.execRdVoiceStatus s
  | .wrVoiceStatus v => Sys2Proof.Machine.execWrVoiceStatus v s
  | .rdEnvValue => Sys2Proof.Machine.execRdEnvValue s
  | .wrEnvValue v => Sys2Proof.Machine.execWrEnvValue v s
  | .rdArpCounter => Sys2Proof.Machine.execRdArpCounter s
  | .wrArpCounter v => Sys2Proof.Machine.execWrArpCounter v s
  | .rdArpLastMs => Sys2Proof.Machine.execRdArpLastMs s
  | .wrArpLastMs v => Sys2Proof.Machine.execWrArpLastMs v s
  | .rdTrkSlots0 => Sys2Proof.Machine.execRdTrkSlots0 s
  | .wrTrkSlots0 v => Sys2Proof.Machine.execWrTrkSlots0 v s
  | .rdTrkSlots1 => Sys2Proof.Machine.execRdTrkSlots1 s
  | .wrTrkSlots1 v => Sys2Proof.Machine.execWrTrkSlots1 v s
  | .rdOscPhase0 => Sys2Proof.Machine.execRdOscPhase0 s
  | .wrOscPhase0 v => Sys2Proof.Machine.execWrOscPhase0 v s
  | .rdOscPhase1 => Sys2Proof.Machine.execRdOscPhase1 s
  | .wrOscPhase1 v => Sys2Proof.Machine.execWrOscPhase1 v s
  | .rdOscPhase2 => Sys2Proof.Machine.execRdOscPhase2 s
  | .wrOscPhase2 v => Sys2Proof.Machine.execWrOscPhase2 v s
  | .rdFiltState => Sys2Proof.Machine.execRdFiltState s
  | .wrFiltState v => Sys2Proof.Machine.execWrFiltState v s
  | .rdFiltFc => Sys2Proof.Machine.execRdFiltFc s
  | .wrFiltFc v => Sys2Proof.Machine.execWrFiltFc v s
  | .rdEnvArate => Sys2Proof.Machine.execRdEnvArate s
  | .wrEnvArate v => Sys2Proof.Machine.execWrEnvArate v s
  | .rdEnvDrate => Sys2Proof.Machine.execRdEnvDrate s
  | .wrEnvDrate v => Sys2Proof.Machine.execWrEnvDrate v s
  | .rdEnvRrate => Sys2Proof.Machine.execRdEnvRrate s
  | .wrEnvRrate v => Sys2Proof.Machine.execWrEnvRrate v s
  | .rdEnvSus => Sys2Proof.Machine.execRdEnvSus s
  | .wrEnvSus v => Sys2Proof.Machine.execWrEnvSus v s
  | .wrTrkQuery v => Sys2Proof.Machine.execWrTrkQuery v s
  | .rdTrkQuery => Sys2Proof.Machine.execRdTrkQuery s
  | .rdReserved addr => Sys2Proof.Machine.execRdReserved addr s
  | .wrReserved addr v => Sys2Proof.Machine.execWrReserved addr v s
  | .busError a => Sys2Proof.Machine.execBusError a s
  | .tick now => Sys2Proof.Machine.execTick now s
  | .waveSine p => Sys2Proof.Machine.execWaveSine p s
  | .waveSaw p => Sys2Proof.Machine.execWaveSaw p s
  | .waveSquare p => Sys2Proof.Machine.execWaveSquare p s
  | .waveTriangle p => Sys2Proof.Machine.execWaveTriangle p s
  | .evtKind w => Sys2Proof.Machine.execEvtKind w s
  | .trkPush note => Sys2Proof.Machine.execTrkPush note s
  | .trkMostRecent => Sys2Proof.Machine.execTrkMostRecent s
  | .trkSmallest => Sys2Proof.Machine.execTrkSmallest s
  | .trkRightOf x => Sys2Proof.Machine.execTrkRightOf x s
  | .trkPop note => Sys2Proof.Machine.execTrkPop note s
  | .trkLength => Sys2Proof.Machine.execTrkLength s
  | .trkAt index => Sys2Proof.Machine.execTrkAt index s
  | .arpPeriod a => Sys2Proof.Machine.execArpPeriod a s
  | .arpStep a now => Sys2Proof.Machine.execArpStep a now s
  | .arpClear => Sys2Proof.Machine.execArpClear s
  | .arpIndex => Sys2Proof.Machine.execArpIndex s
  | .dt note => Sys2Proof.Machine.execDt note s
  | .wave sel p => Sys2Proof.Machine.execWave sel p s
  | .oscStep n dt => Sys2Proof.Machine.execOscStep n dt s
  | .envSetRates e => Sys2Proof.Machine.execEnvSetRates e s
  | .envStep => Sys2Proof.Machine.execEnvStep s
  | .envStageOff => Sys2Proof.Machine.execEnvStageOff s
  | .envStageAttack => Sys2Proof.Machine.execEnvStageAttack s
  | .envStageDecay => Sys2Proof.Machine.execEnvStageDecay s
  | .envStageSustain => Sys2Proof.Machine.execEnvStageSustain s
  | .envStageRelease => Sys2Proof.Machine.execEnvStageRelease s
  | .envTriggerOn => Sys2Proof.Machine.execEnvTriggerOn s
  | .envTriggerOff => Sys2Proof.Machine.execEnvTriggerOff s
  | .filtTarget c e => Sys2Proof.Machine.execFiltTarget c e s
  | .filtSmooth t => Sys2Proof.Machine.execFiltSmooth t s
  | .filtK c => Sys2Proof.Machine.execFiltK c s
  | .filtSample x e => Sys2Proof.Machine.execFiltSample x e s
  | .satHard x => Sys2Proof.Machine.execSatHard x s
  | .satSoft x => Sys2Proof.Machine.execSatSoft x s
  | .boostChain x => Sys2Proof.Machine.execBoostChain x s
  | .adopt => Sys2Proof.Machine.execAdopt s
  | .drain => Sys2Proof.Machine.execDrain s
  | .emptyVoice => Sys2Proof.Machine.execEmptyVoice s
  | .selectNote now => Sys2Proof.Machine.execSelectNote now s
  | .retrigger n => Sys2Proof.Machine.execRetrigger n s
  | .setRatesStep => Sys2Proof.Machine.execSetRatesStep s
  | .sample dt => Sys2Proof.Machine.execSample dt s
  | .emit x => Sys2Proof.Machine.execEmit x s

end Sys2Proof.Machine
end

