-- ==== Sys2Proof/Machine/Step.lean ====
section
/-! DEFINITION. One step of the VE, and where its next instruction is placed. -/

namespace Sys2Proof.Machine

/-- One step: the next frame is taken and its instruction run. While no access and no tick has come the VE does nothing
(R294). Log 1. -/
def step (s : State) : Host.Outcome State Fault Refusal :=
  match fetchFrame s with
  | none => .next s
  | some (f, rest) => exec (decode f) rest

/-- `s` with the frame of a table word next to be taken. The VE does not load a program: a frame reaches it from outside,
which this stands for. Log 1, log 14. -/
def State.withFetchWord (s : State) (nbits w : Nat) : State :=
  match tableFrame nbits w with
  | some f => { s with inbox := f :: s.inbox }
  | none => s

end Sys2Proof.Machine
end

