-- ==== Sys2Proof/Safety.lean ====
section
/-! DEFINITION. What a good state of the VE is, in the terms the claims use: the invariants the spec states of reachable
states, and what correct rounding is. -/

namespace Sys2Proof.Machine

/-- The tracker invariants of 10_state.md R38: the held notes are distinct and none is 255, every slot from the length on
is 255. (`0 <= trk_len <= 5` holds by type.) -/
abbrev trackerOk (s : State) : Prop :=
  (heldNotes s).Nodup ∧ (255 : U8) ∉ heldNotes s ∧ ∀ n ∈ s.trkSlot.toList.drop s.trkLen.val, n = 255

/-- "The values 128..254 never enter the tracker through the event path" (R130). -/
abbrev notesArePitches (s : State) : Prop := ∀ n ∈ heldNotes s, n.toNat < 128

/-- The event FIFO holds at most EVQ_DEPTH words (R37). -/
abbrev queueOk (s : State) : Prop := s.evq.length ≤ Config.evqDepth

/-- Reserved bits of the staging image are zero (R35, R104). -/
abbrev stageOk (s : State) : Prop := ∀ k : Fin 22, s.cfgStage[k] &&& cfgMask k = s.cfgStage[k]

/-- The active configuration is legal (R33; D34 "so that the active configuration is always legal"). -/
abbrev configOk (s : State) : Prop := legal s.cfgActive = true

/-- `voice_note` is a pitch or 255, and not 255 while the voice is enabled (R41, R171). -/
abbrev voiceOk (s : State) : Prop :=
  (s.voiceNote.toNat < 128 ∨ s.voiceNote = 255) ∧ (s.voiceEn = true → s.voiceNote ≠ 255)

/-- `+0.0 <= osc_phase[i] < 1.0`, never -0.0 (R42). -/
abbrev phasesOk (s : State) : Prop := ∀ i : Fin 3, inPhaseRange s.oscPhase[i] = true

/-- `0.0 <= env_value <= 1.0`, and stage Off implies the value is +0.0 (R43). -/
abbrev envOk (s : State) : Prop :=
  fLe fZero s.envValue = true ∧ fLe s.envValue fOne = true ∧ (s.envStage = .off → s.envValue = fZero)

/-- `FC_MIN_F <= filt_fc <= FC_MAX_F` (R45). -/
abbrev cutoffOk (s : State) : Prop := fLe fcMinF s.filtFc = true ∧ fLe s.filtFc fcMaxF = true

/-- The invariants of the control state: tracker, queue, staging image, active configuration, voice. -/
abbrev controlOk (s : State) : Prop :=
  trackerOk s ∧ notesArePitches s ∧ queueOk s ∧ stageOk s ∧ configOk s ∧ voiceOk s

/-- A run in which no model fault was recorded: "A model may treat a non-empty `S.faults` as a failed run" (R281). -/
abbrev cleanRun (s : State) : Prop := s.faults = []

/-- `r` is `num / den` units of 2^-149 rounded to nearest, ties to even (R11): it is no NaN; it is finite exactly below
2^128 - 2^103, the middle of the largest finite value and 2^128; then no finite value is nearer, and if another value is
as near, the last fraction bit of `r` is 0. -/
def roundsTo (num den : Int) (r : F32) : Prop :=
  fIsNaN r = false ∧
  (fIsFinite r = true ↔ num.natAbs < (2 ^ 25 - 1) * 2 ^ 252 * den.natAbs) ∧
  (fIsFinite r = true → ∀ z : F32, fIsFinite z = true →
    (fScaled r * den - num).natAbs ≤ (fScaled z * den - num).natAbs ∧
    ((fScaled z * den - num).natAbs = (fScaled r * den - num).natAbs → fScaled z ≠ fScaled r → r.getLsbD 0 = false))

/-- The frames a host itself can issue: accesses and ticks (R19, R118). The other two carry what the VE hands to its own
event decoder and waveform table (log 2). -/
def hostFrame : Frame → Bool
  | .access _ => true
  | .tick _ => true
  | .event _ => false
  | .wave _ _ => false

end Sys2Proof.Machine
end

