-- ==== Sys2Proof/Certificates/Slice0/Obligations.lean ====
section
/-! DEFINITION. The statements for the provers, each with the rules it rests on. -/

open Sys2Proof Sys2Proof.Machine

/-- O1. Decode and encode agree on every instruction that has an encoding (R71, R75, R90, R91, R92, R113, R118). An
event or selector word as a frame, with its phase, is the model's own (log 2). -/
def Obligations.DecodeOfEncodeGivesTheInstructionBack : Prop :=
  ∀ (i : Instr) (f : Frame), i.wellFormed = true → encode i = some f → decode f = i

/-- O2. Every frame decodes to a well-formed instruction, and no bit of an event or an access is dropped (R94, R71, R75,
R114, R90). An event or selector word as a frame is the model's view (log 2). -/
def Obligations.DecodedFramesAreWellFormedAndKeepTheirBits : Prop :=
  (∀ w : U32, (decode (.event w)).wellFormed = true ∧ encode (decode (.event w)) = some (.event w)) ∧
    (∀ a : HostAccess, (decode (.access a)).wellFormed = true ∧ encode (decode (.access a)) = some (.access a)) ∧
    (∀ now : U32, (decode (.tick now)).wellFormed = true ∧ encode (decode (.tick now)) = some (.tick now)) ∧
    (∀ (ctrl : U32) (p : F32), inPhaseRange p = true → (decode (.wave ctrl p)).wellFormed = true)

/-- O3. A few words written out from the spec decode to the instructions they stand for (R91, R92, R75, R113, R90). An
event or selector word as a frame is the model's view (log 2). -/
def Obligations.SampleWordsDecodeToTheirInstructions : Prop :=
  decode (.event 0x00643C90#32) = .noteOn 0 60 false 100 false 0 ∧
    decode (.event 0x00803C90#32) = .noteOnVel0 0 60 false true 0 ∧
    decode (.event 0x00643CB0#32) = .evtIgnore 0 0xB 60 false 100 false 0 ∧
    decode (.access (.read 0x138 4)) = .rdCfgActiveEnvSustain ∧
    decode (.access (.write 0x088 4 0x00643C90#32)) = .wrEvtPush 0x00643C90#32 ∧
    decode (.access (.write 0x002 4 7)) = .busError (.write 0x002 4 7) ∧
    decode (.tick 500) = .tick 500 ∧
    decode (.wave 0x00000005#32 0x3F400000#32) = .waveSquare 0x3F400000#32

/-- O4. A step takes the next frame and runs its decoded instruction; with no frame it does nothing (the model's port,
log 1) (R76, R294, R71). Frames come from the model's own `inbox` (log 1). -/
def Obligations.StepRunsTheDecodedInstruction : Prop :=
  (∀ (s : State) (f : Frame) (rest : List Frame), s.inbox = f :: rest →
      step s = exec (decode f) { s with inbox := rest }) ∧
    (∀ s : State, s.inbox = [] → step s = .next s)

/-- O5. EVT_KIND decides the kind of an event word in the priority order of R92, and the decoder's row is one of that
kind (R92). Here `result` is the model's own field (log 4); an event or selector word as a frame is the model's view
(log 2). -/
def Obligations.EventKindFollowsTheStatusNibble : Prop :=
  ∀ (w : U32) (s : State), ∃ k : EventKind, exec (.evtKind w) s = .next { s with result := .kind k } ∧
    (w.extractLsb' 4 4 = 0x8#4 → k = .noteOff) ∧
    (w.extractLsb' 4 4 = 0x9#4 → w.extractLsb' 16 7 = 0#7 → k = .noteOff) ∧
    (w.extractLsb' 4 4 = 0x9#4 → w.extractLsb' 16 7 ≠ 0#7 → k = .noteOn) ∧
    (w.extractLsb' 4 4 ≠ 0x8#4 → w.extractLsb' 4 4 ≠ 0x9#4 → k = .ignore) ∧
    (k = .ignore ↔ ∃ chan status pitch x15 vel x23 b3, decode (.event w) = .evtIgnore chan status pitch x15 vel x23 b3) ∧
    (k = .noteOn ↔ ∃ chan pitch x15 vel x23 b3, decode (.event w) = .noteOn chan pitch x15 vel x23 b3) ∧
    (k = .noteOff ↔ (∃ chan pitch x15 vel x23 b3, decode (.event w) = .noteOff chan pitch x15 vel x23 b3) ∨
      ∃ chan pitch x15 x23 b3, decode (.event w) = .noteOnVel0 chan pitch x15 x23 b3)

/-- O6. The EVT32 rows act on the tracker as the drain says: push, pop, pop, nothing (R243, R93, R131, R135). That an
EVT32 row runs as an instruction of its own and acts at once is the model's choice (log 2). -/
def Obligations.EventRowsPushPopOrDoNothing : Prop :=
  ∀ (chan status : BitVec 4) (pitch vel : BitVec 7) (x15 x23 : Bool) (b3 : U8) (s : State),
    (∃ t, exec (.noteOn chan pitch x15 vel x23 b3) s = .next t ∧ exec (.trkPush (0#1 ++ pitch)) s = .next t) ∧
    (∃ t, exec (.noteOff chan pitch x15 vel x23 b3) s = .next t ∧ exec (.trkPop (0#1 ++ pitch)) s = .next t) ∧
    (∃ t, exec (.noteOnVel0 chan pitch x15 x23 b3) s = .next t ∧ exec (.trkPop (0#1 ++ pitch)) s = .next t) ∧
    exec (.evtIgnore chan status pitch x15 vel x23 b3) s = .next s

/-- O7. Two event queues that agree in kind and pitch give the same tick (R93, R243). -/
def Obligations.OnlyKindAndPitchOfAnEventMatter : Prop :=
  ∀ (now : U32) (s : State) (ws ws' : List U32),
    List.Forall₂ (fun w w' => evtKind w = evtKind w' ∧ w.extractLsb' 8 7 = w'.extractLsb' 8 7) ws ws' →
    exec (.tick now) { s with evq := ws } = exec (.tick now) { s with evq := ws' }

/-- O8. TRK_PUSH inserts a new note at the front, drops the sixth, and ignores the sentinel and held notes (R131). -/
def Obligations.TrackerPushPutsANewNoteFirst : Prop :=
  ∀ (n : U8) (s : State), ∃ t, exec (.trkPush n) s = .next t ∧
    (n = 255 ∨ n ∈ heldNotes s → t = s) ∧
    (n ≠ 255 → n ∉ heldNotes s →
      t.trkSlot = #v[n, s.trkSlot[0], s.trkSlot[1], s.trkSlot[2], s.trkSlot[3]] ∧
      t.trkLen.val = min (s.trkLen.val + 1) 5 ∧ heldNotes t = (n :: heldNotes s).take 5) ∧
    (trackerOk s → trackerOk t) ∧
    t = { s with trkSlot := t.trkSlot, trkLen := t.trkLen }

/-- O9. TRK_POP takes the note out and keeps the order of the rest; of a note held twice, the first (DESIGN CHOICE, log
17) (R135). Taking the first index of a note held twice is the model's choice (log 17). -/
def Obligations.TrackerPopRemovesTheNote : Prop :=
  ∀ (n : U8) (s : State), ∃ t, exec (.trkPop n) s = .next t ∧
    (n = 255 ∨ n ∉ heldNotes s → t = s) ∧
    (n ≠ 255 → n ∈ heldNotes s → heldNotes t = (heldNotes s).erase n ∧
      t.trkLen.val + 1 = s.trkLen.val ∧ t.trkSlot[4] = 255 ∧
      ∀ m : Fin 4, t.trkSlot[m] =
        if m.val < (heldNotes s).idxOf n then s.trkSlot[m] else s.trkSlot[m.val + 1]) ∧
    (trackerOk s → trackerOk t) ∧
    t = { s with trkSlot := t.trkSlot, trkLen := t.trkLen }

/-- O10. TRK_MOST_RECENT, TRK_SMALLEST, TRK_LENGTH and TRK_AT read the held notes (R132, R133, R136, R137). Here
`result` is the model's own field (log 4). -/
def Obligations.TrackerQueriesReadTheHeldNotes : Prop :=
  ∀ s : State, trackerOk s →
    exec .trkMostRecent s = .next { s with result := .note ((heldNotes s).headD 255) } ∧
    (∃ r, exec .trkSmallest s = .next { s with result := .note r } ∧
      (heldNotes s = [] → r = 255) ∧
      (heldNotes s ≠ [] → r ∈ heldNotes s ∧ ∀ n ∈ heldNotes s, r.toNat ≤ n.toNat)) ∧
    exec .trkLength s = .next { s with result := .count (heldNotes s).length } ∧
    (∀ (i : Nat) (h : i < (heldNotes s).length), exec (.trkAt i) s = .next { s with result := .note (heldNotes s)[i] })

/-- O11. TRK_RIGHT_OF gives the least held note above x, and wraps to the smallest (R134). Here `result` is the model's
own field (log 4). -/
def Obligations.TrackerRightOfIsTheNextHigherNote : Prop :=
  ∀ (x : U8) (s : State), trackerOk s → ∃ r, exec (.trkRightOf x) s = .next { s with result := .note r } ∧
    (heldNotes s = [] → r = 255) ∧
    (∀ n, heldNotes s = [n] → r = n) ∧
    (2 ≤ (heldNotes s).length → (∃ n ∈ heldNotes s, x.toNat < n.toNat) →
      r ∈ heldNotes s ∧ x.toNat < r.toNat ∧ ∀ n ∈ heldNotes s, x.toNat < n.toNat → r.toNat ≤ n.toNat) ∧
    (2 ≤ (heldNotes s).length → (∀ n ∈ heldNotes s, n.toNat ≤ x.toNat) →
      r ∈ heldNotes s ∧ ∀ n ∈ heldNotes s, r.toNat ≤ n.toNat)

/-- O12. ARP_PERIOD is the floor of 60000 over the exact product, or NEVER (R150). Here `result` is the model's own
field (log 4). -/
def Obligations.ArpPeriodIsAFlooredQuotient : Prop :=
  ∀ (a : ArpCfg) (s : State), ∃ q : Period, exec (.arpPeriod a) s = .next { s with result := .period q } ∧
    (a.bpm.toNat * a.div.toNat = 0 → q = .never) ∧
    (a.bpm.toNat * a.div.toNat ≠ 0 → ∃ p, q = .ms p ∧ p * (a.bpm.toNat * a.div.toNat) ≤ 60000 ∧
      60000 < (p + 1) * (a.bpm.toNat * a.div.toNat))

/-- O13. ARP_STEP activates an inactive arpeggiator, advances one step when the period has run out, and otherwise does
nothing (R151). Here `result` is the model's own field (log 4). -/
def Obligations.ArpStepActivatesAdvancesOrWaits : Prop :=
  ∀ (a : ArpCfg) (now : U32) (s : State),
    (s.arpActive = false → exec (.arpStep a now) s =
      .next { s with arpActive := true, arpLastMs := now, arpCounter := 0, result := .flag true }) ∧
    (s.arpActive = true → a.bpm.toNat * a.div.toNat = 0 → exec (.arpStep a now) s = .next { s with result := .flag false }) ∧
    (s.arpActive = true → a.bpm.toNat * a.div.toNat ≠ 0 →
      60000 / (a.bpm.toNat * a.div.toNat) ≤ (now - s.arpLastMs).toNat →
      exec (.arpStep a now) s =
        .next { s with arpCounter := s.arpCounter + 1, arpLastMs := now, result := .flag true }) ∧
    (s.arpActive = true → a.bpm.toNat * a.div.toNat ≠ 0 →
      (now - s.arpLastMs).toNat < 60000 / (a.bpm.toNat * a.div.toNat) →
      exec (.arpStep a now) s = .next { s with result := .flag false })

/-- O14. ARP_CLEAR zeroes the arpeggiator; ARP_INDEX is the counter modulo the length, free on an empty tracker (logs
10, 11) (R152, R153, R137). Here `result` is the model's own field (log 4). -/
def Obligations.ArpClearAndIndex : Prop :=
  (∀ s : State,
    exec .arpClear s = .next { s with arpActive := false, arpCounter := 0, arpLastMs := 0 } ∧
    (s.trkLen ≠ 0 → exec .arpIndex s = .next { s with result := .count (s.arpCounter.toNat % s.trkLen.val) })) ∧
    (∀ (i : Nat) (s : State),
    (s.trkLen = 0 → ∃ n, exec .arpIndex s = .next { s with result := .count n }) ∧
    (s.trkLen.val ≤ i → ∃ n, exec (.trkAt i) s = .next { s with result := .note n }))

/-- O15. However often it is polled, an active arpeggiator does not move before its period, and then moves one step
(R151, R155). -/
def Obligations.ArpWaitsOutItsPeriodThenAdvancesOnce : Prop :=
  ∀ (a : ArpCfg) (p : Nat) (s : State) (polls : List U32) (now : U32),
    s.arpActive = true → arpPeriod a = .ms p →
    (∀ t ∈ polls, (t - s.arpLastMs).toNat < p) → p ≤ (now - s.arpLastMs).toNat →
    polls.foldl (fun u t => (arpStep a t u).2) s = s ∧
    (arpStep a now (polls.foldl (fun u t => (arpStep a t u).2) s)).2 =
      { s with arpCounter := s.arpCounter + 1, arpLastMs := now }

/-- O16. DT is one binary32 division of the table frequency by SR_F, and +0.0 for the sentinel; the twelve frequencies
of an octave, and the octave law (R171, R170). Here `result` is the model's own field (log 4); NOTE_HZ of the notes 128
to 254 is a free value (DESIGN CHOICE, log 12). -/
def Obligations.PhaseIncrementIsTheNoteFrequencyOverTheSampleRate : Prop :=
  (∀ s : State, exec (.dt 255) s = .next { s with result := .sample 0x00000000#32 }) ∧
    (∀ (n : U8) (s : State), n ≠ 255 → exec (.dt n) s = .next { s with result := .sample (fDiv (noteHz n) 0x472C4400#32) }) ∧
    (∀ n : Fin 116, (noteHz (BitVec.ofNat 8 (n.val + 12))).toNat = (noteHz (BitVec.ofNat 8 n.val)).toNat + 2 ^ 23) ∧
    ∀ k : Fin 12, noteHz (BitVec.ofNat 8 (60 + k.val)) = (#v[0x4382D013#32, 0x438A9760#32, 0x4392D517#32, 0x439B9041#32, 0x43A4D054#32,
      0x43AE9D37#32, 0x43B8FF49#32, 0x43C3FF6A#32, 0x43CFA700#32, 0x43DC0000#32, 0x43E914F6#32, 0x43F6F110#32] : Vector F32 12)[k]

/-- O17. Every waveform of a phase in [0,1) lies in [-1, 1], WAVE is the row its code selects, and the shapes are the
formulas (R172, R173, R174, R175, R176, R113). Here `result` is the model's own field (log 4); SAW, SQUARE and TRIANGLE
of a phase outside [0,1) are the model's choice (log 13). -/
def Obligations.WaveformsAndTheirRange : Prop :=
  (∀ (sel : BitVec 2) (p : F32) (s : State), inPhaseRange p = true →
    ∃ y, exec (.wave sel p) s = .next { s with result := .sample y } ∧
      fLe 0xBF800000#32 y = true ∧ fLe y 0x3F800000#32 = true ∧
      (sel = 0 → exec (.waveSine p) s = .next { s with result := .sample y }) ∧
      (sel = 1 → exec (.waveSaw p) s = .next { s with result := .sample y }) ∧
      (sel = 2 → exec (.waveSquare p) s = .next { s with result := .sample y }) ∧
      (sel = 3 → exec (.waveTriangle p) s = .next { s with result := .sample y })) ∧
    (∀ (p : F32) (s : State),
    exec (.waveSaw p) s = .next { s with result := .sample (fSub (fMul 0x40000000#32 p) 0x3F800000#32) } ∧
    exec (.waveSquare p) s =
      .next { s with result := .sample (if fLt p 0x3F000000#32 then 0x3F800000#32 else 0xBF800000#32) } ∧
    exec (.waveTriangle p) s = .next { s with result := .sample (if fLt p 0x3F000000#32
      then fSub (fMul 0x40800000#32 p) 0x3F800000#32 else fSub 0x40400000#32 (fMul 0x40800000#32 p)) })

/-- O18. WAVE_SINE reads table entry k for every phase in [k/256, (k+1)/256); the table is the 256 words of R177 (R173,
R177). Here `result` is the model's own field (log 4). -/
def Obligations.SineReadsTheTruncatedTableEntry : Prop :=
  (∀ (k : Nat) (y p : F32) (s : State), sineTable[k]? = some y → inPhaseRange p = true →
      (k : Int) * 2 ^ 149 ≤ fScaled p * 256 → fScaled p * 256 < ((k : Int) + 1) * 2 ^ 149 →
      exec (.waveSine p) s = .next { s with result := .sample y }) ∧
    sineTable.length = 256 ∧
    (∀ k : Fin 65, sineTable[k.val]? = some (#v[0x00000000#32, 0x3CC90AB0#32, 0x3D48FB30#32, 0x3D96A905#32, 0x3DC8BD36#32, 0x3DFAB273#32, 0x3E164083#32, 0x3E2F10A2#32,
      0x3E47C5C2#32, 0x3E605C13#32, 0x3E78CFCC#32, 0x3E888E93#32, 0x3E94A031#32, 0x3EA09AE5#32, 0x3EAC7CD4#32, 0x3EB8442A#32,
      0x3EC3EF15#32, 0x3ECF7BCA#32, 0x3EDAE880#32, 0x3EE63375#32, 0x3EF15AEA#32, 0x3EFC5D27#32, 0x3F039C3D#32, 0x3F08F59B#32,
      0x3F0E39DA#32, 0x3F13682A#32, 0x3F187FC0#32, 0x3F1D7FD1#32, 0x3F226799#32, 0x3F273656#32, 0x3F2BEB4A#32, 0x3F3085BB#32,
      0x3F3504F3#32, 0x3F396842#32, 0x3F3DAEF9#32, 0x3F41D870#32, 0x3F45E403#32, 0x3F49D112#32, 0x3F4D9F02#32, 0x3F514D3D#32,
      0x3F54DB31#32, 0x3F584853#32, 0x3F5B941A#32, 0x3F5EBE05#32, 0x3F61C598#32, 0x3F64AA59#32, 0x3F676BD8#32, 0x3F6A09A7#32,
      0x3F6C835E#32, 0x3F6ED89E#32, 0x3F710908#32, 0x3F731447#32, 0x3F74FA0B#32, 0x3F76BA07#32, 0x3F7853F8#32, 0x3F79C79D#32,
      0x3F7B14BE#32, 0x3F7C3B28#32, 0x3F7D3AAC#32, 0x3F7E1324#32, 0x3F7EC46D#32, 0x3F7F4E6D#32, 0x3F7FB10F#32, 0x3F7FEC43#32,
      0x3F800000#32] : Vector F32 65)[k]) ∧
    (∀ j ≤ 64, sineTable[64 + j]? = sineTable[64 - j]?) ∧
    (∀ j, 1 ≤ j → j ≤ 127 → sineTable[128 + j]? = sineTable[j]?.map (fun y => y ^^^ 0x80000000#32)) ∧
    sineTable[128]? = some 0x00000000#32

/-- O19. An enabled oscillator stores the fraction of its advanced phase and returns its waveform there; a disabled one
returns +0.0 and keeps its phase (R178). Here `result` is the model's own field (log 4); the floor of -0.0 and of a NaN
is the model's (log 9). -/
def Obligations.OscStepStoresTheFractionOfTheAdvancedPhase : Prop :=
  ∀ (i : Fin 3) (dt : F32) (s : State),
    ((s.cfgActive.osc[i]).en = false → exec (.oscStep i dt) s = .next { s with result := .sample 0x00000000#32 }) ∧
    ((s.cfgActive.osc[i]).en = true → ∀ u f : F32,
      u = fAdd s.oscPhase[i] (fMul dt (s.cfgActive.osc[i]).fmult) → f = fSub u (fFloor u) →
      ∃ t, exec (.oscStep i dt) s = .next t ∧
        t.oscPhase[i] = wrapPhase u ∧
        wrapPhase u = (if fEq f 0x3F800000#32 then 0x00000000#32 else if fEq f 0x00000000#32 then 0x00000000#32 else f) ∧
        t.result = .sample (fMul (waveAt (s.cfgActive.osc[i]).wave t.oscPhase[i]) (s.cfgActive.osc[i]).gain) ∧
        (∀ j : Fin 3, j ≠ i → t.oscPhase[j] = s.oscPhase[j]) ∧
        t = { s with oscPhase := t.oscPhase, result := t.result })

/-- O20. With a legal configuration an oscillator step keeps every phase in [0,1), exact from a sum that is not
negative, and its output within its gain (R178, R181, R42). Here `result` is the model's own field (log 4). -/
def Obligations.OscStepKeepsPhasesInRangeAndOutputBounded : Prop :=
  (∀ (i : Fin 3) (dt : F32) (s : State), configOk s → phasesOk s → fLe 0x00000000#32 dt = true → fLe dt 0x3F800000#32 = true →
    ∃ t y, exec (.oscStep i dt) s = .next t ∧ phasesOk t ∧ t.result = .sample y ∧
      fLe (fAbs y) (fAbs (s.cfgActive.osc[i]).gain) = true) ∧
    (∀ t : F32, fIsFinite t = true →
    inPhaseRange (wrapPhase t) = true ∧
    (0 ≤ fScaled t → ∃ n : Int, fScaled t = fScaled (wrapPhase t) + n * 2 ^ 149))

/-- O21. ENV_SET_RATES is a clamp, a product and a quotient per duration; legal durations give rates between two bounds
(R190, R248, R199, R33). -/
def Obligations.EnvelopeRatesAndTheirBounds : Prop :=
  (∀ (e : EnvCfg) (s : State),
    exec (.envSetRates e) s = .next { s with
      envArate := fDiv 0x3F800000#32 (fMul (fMax e.attack 0x3A83126F#32) 0x472C4400#32)
      envDrate := fDiv 0x3F800000#32 (fMul (fMax e.decay 0x3A83126F#32) 0x472C4400#32)
      envRrate := fDiv 0x3F800000#32 (fMul (fMax e.release 0x3A83126F#32) 0x472C4400#32)
      envSus := e.sustain } ∧
    (∃ t, exec .setRatesStep s = .next t ∧ exec (.envSetRates s.cfgActive.env) s = .next t)) ∧
    (∀ d : F32, fLe 0x00000000#32 d = true → fLe d 0x42700000#32 = true →
    fLe 0x34CAE629#32 (envRate d) = true ∧ fLe (envRate d) 0x3CB9C277#32 = true)

/-- O22. The five stage rules, the two triggers that force a stage and leave the value, and ENV_STEP, which runs the
rule of the current stage (R191, R192, R193, R194, R195, R196, R197, R198). Here `result` is the model's own field (log
4); that a stage operation follows its rule whatever `env_stage` is, is the model's choice (log 5). -/
def Obligations.EnvelopeStageRulesStepAndTriggers : Prop :=
  (∀ s : State,
    exec .envStageOff s = .next s ∧
    exec .envStageSustain s = .next s ∧
    (fLe 0x3F800000#32 (fAdd s.envValue s.envArate) = true →
      exec .envStageAttack s = .next { s with envValue := 0x3F800000#32, envStage := .decay }) ∧
    (fLe 0x3F800000#32 (fAdd s.envValue s.envArate) = false →
      exec .envStageAttack s = .next { s with envValue := fAdd s.envValue s.envArate }) ∧
    (fLe (fSub s.envValue s.envDrate) s.envSus = true →
      exec .envStageDecay s = .next { s with envValue := s.envSus, envStage := .sustain }) ∧
    (fLe (fSub s.envValue s.envDrate) s.envSus = false →
      exec .envStageDecay s = .next { s with envValue := fSub s.envValue s.envDrate }) ∧
    (fLe (fSub s.envValue s.envRrate) 0x00000000#32 = true →
      exec .envStageRelease s = .next { s with envValue := 0x00000000#32, envStage := .off }) ∧
    (fLe (fSub s.envValue s.envRrate) 0x00000000#32 = false →
      exec .envStageRelease s = .next { s with envValue := fSub s.envValue s.envRrate })) ∧
    (∀ s : State,
    exec .envTriggerOn s = .next { s with envStage := .attack } ∧
    exec .envTriggerOff s = .next { s with envStage := .release }) ∧
    (∀ s : State, ∃ t, exec .envStep s = .next { t with result := .sample t.envValue } ∧
    exec (match s.envStage with
      | .off => .envStageOff
      | .attack => .envStageAttack
      | .decay => .envStageDecay
      | .sustain => .envStageSustain
      | .release => .envStageRelease) s = .next t)

/-- O23. f32 arithmetic is IEEE 754 binary32: the exact result rounded to nearest with ties to even, with the cases of
zeros, infinities and NaNs (R11, R72). The sign and the fraction of a NaN result are free (log 8). -/
def Obligations.ArithmeticIsBinary32RoundedToNearestEven : Prop :=
  (∀ x : F32, fSign x = x.getLsbD 31 ∧
      (fIsFinite x = true ↔ x.extractLsb' 23 8 ≠ 0xFF#8) ∧
      (fIsInf x = true ↔ x.extractLsb' 23 8 = 0xFF#8 ∧ x.extractLsb' 0 23 = 0#23) ∧
      (fIsNaN x = true ↔ x.extractLsb' 23 8 = 0xFF#8 ∧ x.extractLsb' 0 23 ≠ 0#23) ∧
      fScaled x = (if fSign x then -1 else 1) * (if x.extractLsb' 23 8 = 0#8 then ((x.extractLsb' 0 23).toNat : Int)
        else (2 ^ 23 + (x.extractLsb' 0 23).toNat) * 2 ^ ((x.extractLsb' 23 8).toNat - 1))) ∧
    (∀ x y : F32, fIsFinite x = true → fIsFinite y = true →
      roundsTo (fScaled x + fScaled y) 1 (fAdd x y) ∧
      roundsTo (fScaled x - fScaled y) 1 (fSub x y) ∧
      roundsTo (fScaled x * fScaled y) (2 ^ 149) (fMul x y) ∧
      (fScaled y ≠ 0 → roundsTo (fScaled x * 2 ^ 149) (fScaled y) (fDiv x y)) ∧
      fSign (fAdd x y) = (if fScaled x + fScaled y = 0 then fSign x && fSign y else decide (fScaled x + fScaled y < 0)) ∧
      fSign (fSub x y) = (if fScaled x - fScaled y = 0 then fSign x && !fSign y else decide (fScaled x - fScaled y < 0)) ∧
      fSign (fMul x y) = (fSign x != fSign y) ∧
      (fScaled y ≠ 0 → fSign (fDiv x y) = (fSign x != fSign y)) ∧
      (fScaled y = 0 → fScaled x = 0 → fIsNaN (fDiv x y) = true) ∧
      (fScaled y = 0 → fScaled x ≠ 0 → fDiv x y = if fSign x = fSign y then 0x7F800000#32 else 0xFF800000#32)) ∧
    (∀ x y : F32, fIsNaN x = true ∨ fIsNaN y = true →
      fIsNaN (fAdd x y) = true ∧ fIsNaN (fSub x y) = true ∧ fIsNaN (fMul x y) = true ∧ fIsNaN (fDiv x y) = true) ∧
    (∀ x y : F32, fIsNaN x = false → fIsNaN y = false →
      (fIsInf x = true → fIsInf y = true → fSign x ≠ fSign y → fIsNaN (fAdd x y) = true ∧ fSub x y = x) ∧
      (fIsInf x = true → fIsInf y = true → fSign x = fSign y → fAdd x y = x ∧ fIsNaN (fSub x y) = true) ∧
      (fIsInf x = true → fIsFinite y = true → fAdd x y = x ∧ fSub x y = x) ∧
      (fIsFinite x = true → fIsInf y = true → fAdd x y = y ∧ fSub x y = y ^^^ 0x80000000#32) ∧
      (fIsInf x = true ∨ fIsInf y = true → fScaled x = 0 ∨ fScaled y = 0 → fIsNaN (fMul x y) = true) ∧
      (fIsInf x = true ∨ fIsInf y = true → fScaled x ≠ 0 → fScaled y ≠ 0 →
        fMul x y = if fSign x = fSign y then 0x7F800000#32 else 0xFF800000#32) ∧
      (fIsInf x = true → fIsInf y = true → fIsNaN (fDiv x y) = true) ∧
      (fIsInf x = true → fIsFinite y = true → fDiv x y = if fSign x = fSign y then 0x7F800000#32 else 0xFF800000#32) ∧
      (fIsFinite x = true → fIsInf y = true → fDiv x y = if fSign x = fSign y then 0x00000000#32 else 0x80000000#32))

/-- O24. An envelope step keeps the value in [0,1] and Off at exactly +0.0 (R200, R43). -/
def Obligations.EnvStepKeepsTheValueInRange : Prop :=
  ∀ s : State, envOk s → fLe 0x00000000#32 s.envSus = true → fLe s.envSus 0x3F800000#32 = true →
    (∀ r ∈ [s.envArate, s.envDrate, s.envRrate], fLe 0x00000000#32 r = true ∧ fLe r 0x3F800000#32 = true) →
    ∃ t, exec .envStep s = .next t ∧ envOk t

/-- O25. In Attack every step raises the value strictly, or lands on exactly 1.0 in Decay (R193, R199, R200). -/
def Obligations.AttackRisesStrictlyUntilDecay : Prop :=
  ∀ s : State, s.envStage = .attack → fLe 0x00000000#32 s.envValue = true → fLt s.envValue 0x3F800000#32 = true →
    fLe 0x34CAE629#32 s.envArate = true → fLe s.envArate 0x3F800000#32 = true →
    ∃ t, exec .envStep s = .next t ∧ fLt s.envValue t.envValue = true ∧
      ((t.envStage = .attack ∧ fLt t.envValue 0x3F800000#32 = true) ∨ (t.envStage = .decay ∧ t.envValue = 0x3F800000#32))

/-- O26. FILT_TARGET is the cutoff, with the contour where enabled, clamped to [20, 20000]; FILT_K is the resonance
clamped to [0, 1] (R210, R213, R33). Here `result` is the model's own field (log 4). -/
def Obligations.FilterTargetAndResonanceAreClamped : Prop :=
  (∀ (c : FiltCfg) (e : F32) (s : State),
      exec (.filtTarget c e) s = .next { s with result := .sample (fClamp
        (if c.contourEn then fAdd c.cutoff (fMul c.contour e) else c.cutoff) 0x41A00000#32 0x469C4000#32) } ∧
      exec (.filtK c) s = .next { s with result := .sample (fClamp c.res 0x00000000#32 0x3F800000#32) }) ∧
    (∀ (c : FiltCfg) (e : F32) (s : State), legalFilt c = true → fLe 0x00000000#32 e = true → fLe e 0x3F800000#32 = true →
      (∃ y, exec (.filtTarget c e) s = .next { s with result := .sample y } ∧
        fLe 0x41A00000#32 y = true ∧ fLe y 0x469C4000#32 = true) ∧
      (∃ k, exec (.filtK c) s = .next { s with result := .sample k } ∧ fLe 0x00000000#32 k = true ∧ fLe k 0x3F800000#32 = true))

/-- O27. FILT_SMOOTH leaves the cutoff between the old cutoff and the target (R211). -/
def Obligations.FilterCutoffMovesTowardItsTarget : Prop :=
  ∀ (t : F32) (s : State),
    exec (.filtSmooth t) s = .next { s with filtFc := fAdd s.filtFc (fMul 0x396DBED1#32 (fSub t s.filtFc)) } ∧
    (cutoffOk s → fLe 0x41A00000#32 t = true → fLe t 0x469C4000#32 = true → ∃ u, exec (.filtSmooth t) s = .next u ∧
      (fLe s.filtFc t = true → fLe s.filtFc u.filtFc = true ∧ fLe u.filtFc t = true) ∧
      (fLe t s.filtFc = true → fLe t u.filtFc = true ∧ fLe u.filtFc s.filtFc = true))

/-- O28. FILT_SAMPLE smooths the cutoff, then solves the filter equation with NUM_TAN (R214, R210, R211, R213). Here
`result` is the model's own field (log 4); NUM_TAN is open (log 7). -/
def Obligations.FilterSampleFollowsTheEquation : Prop :=
  ∀ (x e : F32) (s : State) (fc k g gain y : F32),
    fc = fAdd s.filtFc (fMul 0x396DBED1#32 (fSub (filtTarget s.cfgActive.filt e) s.filtFc)) →
    k = fClamp s.cfgActive.filt.res 0x00000000#32 0x3F800000#32 →
    g = Config.numTan (fDiv (fMul 0x40490FDB#32 fc) 0x472C4400#32) →
    gain = fDiv g (fAdd 0x3F800000#32 g) →
    y = fDiv (fAdd (fMul gain (fSub x s.filtS)) s.filtS) (fAdd 0x3F800000#32 (fMul gain k)) →
    exec (.filtSample x e) s =
      .next { s with filtFc := fc, filtS := fAdd y (fSub y s.filtS), result := .sample y }

/-- O29. SAT_HARD is c * (27 + c*c) / (27 + 9 * (c*c)) of the clamped argument: odd bit for bit, finite, of its sign,
exactly 1.0 from 3.0 on (R230, R234). Here `result` is the model's own field (log 4). -/
def Obligations.HardSaturatorIsItsQuotientOddFiniteAndFlat : Prop :=
  (∀ (x c : F32) (s : State), c = fClamp x 0xC0400000#32 0x40400000#32 →
    exec (.satHard x) s = .next { s with result := .sample (fDiv
      (fMul c (fAdd 0x41D80000#32 (fMul c c))) (fAdd 0x41D80000#32 (fMul 0x41100000#32 (fMul c c)))) }) ∧
    (∀ (x : F32) (s : State), fIsNaN x = false →
    ∃ y, exec (.satHard x) s = .next { s with result := .sample y } ∧
      exec (.satHard (fNeg x)) s = .next { s with result := .sample (fNeg y) } ∧
      (fLe 0x40400000#32 x = true → y = 0x3F800000#32)) ∧
    (∀ (x : F32) (s : State), fIsNaN x = false →
    ∃ y, exec (.satHard x) s = .next { s with result := .sample y } ∧
      fIsFinite y = true ∧ fSign y = fSign x ∧ fLe (fAbs y) 0x40800000#32 = true)

/-- O30. SAT_SOFT of a finite value is x / (1 + |x|), odd and in [-1, 1]; BOOST_CHAIN is pre-gain, SAT_HARD, post-gain,
SAT_HARD (R231, R232). Here `result` is the model's own field (log 4). -/
def Obligations.SoftSaturatorAndBoostChain : Prop :=
  (∀ (x : F32) (s : State),
    exec (.satSoft x) s = .next { s with result := .sample (fDiv x (fAdd 0x3F800000#32 (fAbs x))) } ∧
    (fIsFinite x = true → ∃ y, exec (.satSoft x) s = .next { s with result := .sample y } ∧
      fLe (fAbs y) 0x3F800000#32 = true ∧ fSign y = fSign x ∧
      exec (.satSoft (fNeg x)) s = .next { s with result := .sample (fNeg y) })) ∧
    (∀ (x : F32) (s : State), ∃ u w,
    exec (.satHard (fMul x s.cfgActive.boost.pre)) s = .next { s with result := .sample u } ∧
    exec (.satHard (fMul u s.cfgActive.boost.post)) s = .next { s with result := .sample w } ∧
    exec (.boostChain x) s = .next { s with result := .sample w })

/-- O31. The comparisons compare values and are false with a NaN; floor, clamp, fmax, fabs and i2f are exact (R12, R13).
-/
def Obligations.ComparisonsAndHelpersActOnValues : Prop :=
  (∀ x y : F32,
      (fLt x y = true ↔ fIsNaN x = false ∧ fIsNaN y = false ∧ fScaled x < fScaled y) ∧
      (fLe x y = true ↔ fIsNaN x = false ∧ fIsNaN y = false ∧ fScaled x ≤ fScaled y) ∧
      (fEq x y = true ↔ fIsNaN x = false ∧ fIsNaN y = false ∧ fScaled x = fScaled y)) ∧
    (∀ x : F32, fIsFinite x = true → fIsFinite (fFloor x) = true ∧ ∃ n : Int, fScaled (fFloor x) = n * 2 ^ 149 ∧
      n * 2 ^ 149 ≤ fScaled x ∧ fScaled x < (n + 1) * 2 ^ 149) ∧
    (∀ x : F32, fIsNaN x = false → 2 ^ 172 ≤ (fScaled x).natAbs → fFloor x = x) ∧
    (∀ x lo hi : F32, fClamp x lo hi = if fLt x lo then lo else if fLt hi x then hi else x) ∧
    (∀ x m : F32, fMax x m = if fLt x m then m else x) ∧
    (∀ x : F32, fAbs x = x &&& 0x7FFFFFFF#32 ∧ fNeg x = x ^^^ 0x80000000#32) ∧
    (∀ n ≤ 2 ^ 24, fIsFinite (i2f n) = true ∧ fScaled (i2f n) = (n : Int) * 2 ^ 149)

/-- O32. ADOPT consumes a pending configuration, adopts it if legal and records IllegalConfig if not; legal is every
field in its range (R242, R33). -/
def Obligations.AdoptConsumesAndTakesOnlyLegalConfigurations : Prop :=
  (∀ s : State,
      (s.mboxPending = false → exec .adopt s = .next s) ∧
      (s.mboxPending = true → legal s.mboxSlot = true →
        exec .adopt s = .next { s with mboxPending := false, cfgActive := s.mboxSlot }) ∧
      (s.mboxPending = true → legal s.mboxSlot = false →
        exec .adopt s = .next { s with mboxPending := false, faults := s.faults ++ [.illegalConfig s.mboxSlot] })) ∧
    (∀ c : SynthConfig, legal c = true ↔
      (∀ i : Fin 3,
        (fIsFinite (c.osc[i]).fmult = true ∧ fLe 0xC3800000#32 (c.osc[i]).fmult = true ∧
          fLe (c.osc[i]).fmult 0x43800000#32 = true) ∧
        (fIsFinite (c.osc[i]).gain = true ∧ fLe 0xC1000000#32 (c.osc[i]).gain = true ∧ fLe (c.osc[i]).gain 0x41000000#32 = true)) ∧
      (∀ d ∈ [c.env.attack, c.env.decay, c.env.release],
        fIsFinite d = true ∧ fLe 0x00000000#32 d = true ∧ fLe d 0x42700000#32 = true) ∧
      (fIsFinite c.env.sustain = true ∧ fLe 0x00000000#32 c.env.sustain = true ∧ fLe c.env.sustain 0x3F800000#32 = true) ∧
      (fIsFinite c.boost.pre = true ∧ fLe 0x00000000#32 c.boost.pre = true ∧ fLe c.boost.pre 0x42800000#32 = true) ∧
      (fIsFinite c.boost.post = true ∧ fLe 0x00000000#32 c.boost.post = true ∧ fLe c.boost.post 0x41000000#32 = true) ∧
      ∀ x ∈ [c.filt.cutoff, c.filt.res, c.filt.contour], fIsFinite x = true)

/-- O33. DRAIN empties the queue and applies its events in push order (R243). -/
def Obligations.DrainAppliesTheQueueInOrder : Prop :=
  ∀ s : State, ∃ t, exec .drain s = .next t ∧ t.evq = [] ∧
    s.evq.foldl (fun o w => match o, evtKind w with
        | .next u, .noteOn => exec (.trkPush (0#1 ++ w.extractLsb' 8 7)) u
        | .next u, .noteOff => exec (.trkPop (0#1 ++ w.extractLsb' 8 7)) u
        | o, _ => o) (.next { s with evq := [] } : StepOutcome) = .next t ∧
    t = { s with evq := [], trkSlot := t.trkSlot, trkLen := t.trkLen }

/-- O34. EMPTY_VOICE disables an enabled voice, triggers its release, and clears the arpeggiator (R245). -/
def Obligations.EmptyVoiceReleasesOnceAndClearsTheArpeggiator : Prop :=
  ∀ s : State,
    (s.voiceEn = true → exec .emptyVoice s =
      .next { s with voiceEn := false, envStage := .release, arpActive := false, arpCounter := 0, arpLastMs := 0 }) ∧
    (s.voiceEn = false → exec .emptyVoice s =
      .next { s with arpActive := false, arpCounter := 0, arpLastMs := 0 })

/-- O35. SELECT_NOTE returns a held note: the most recent, or the arpeggiator's (R246). Here `result` is the model's own
field (log 4). -/
def Obligations.SelectedNoteIsAHeldNote : Prop :=
  ∀ (now : U32) (s : State), s.trkLen ≠ 0 → ∃ n t, exec (.selectNote now) s = .next t ∧ t.result = .note n ∧
    n ∈ heldNotes s ∧
    (s.cfgActive.arp.en = false → t = { s with result := .note n } ∧ (heldNotes s).head? = some n) ∧
    (s.cfgActive.arp.en = true →
      (∃ b, exec (.arpStep s.cfgActive.arp now) s = .next { t with result := .flag b }) ∧
      (heldNotes s)[t.arpCounter.toNat % (heldNotes s).length]? = some n)

/-- O36. RETRIGGER enables the voice and restarts Attack for a new note or a disabled voice, and otherwise does nothing
(R247). -/
def Obligations.RetriggerRestartsAttackOnANewNote : Prop :=
  ∀ (n : U8) (s : State),
    (n ≠ s.voiceNote ∨ s.voiceEn = false →
      exec (.retrigger n) s = .next { s with voiceEn := true, voiceNote := n, envStage := .attack }) ∧
    (n = s.voiceNote → s.voiceEn = true → exec (.retrigger n) s = .next s)

/-- O37. SAMPLE is three oscillator steps, an envelope step, the boost chain, the filter where enabled, a clamp and one
emission (R250, R251, R215). Here `result` is the model's own field (log 4). -/
def Obligations.SampleRunsThePipelineOnce : Prop :=
  (∀ (dt : F32) (s : State), ∃ s0 s1 s2 s3 s4 s5 o0 o1 o2 e b y,
    exec (.oscStep 0 dt) s = .next s0 ∧ s0.result = .sample o0 ∧
    exec (.oscStep 1 dt) s0 = .next s1 ∧ s1.result = .sample o1 ∧
    exec (.oscStep 2 dt) s1 = .next s2 ∧ s2.result = .sample o2 ∧
    exec .envStep s2 = .next s3 ∧ s3.result = .sample e ∧
    exec (.boostChain (fMul (fAdd (fAdd o0 o1) o2) e)) s3 = .next s4 ∧ s4.result = .sample b ∧
    (s.cfgActive.filt.en = true → exec (.filtSample b e) s4 = .next s5) ∧
    (s.cfgActive.filt.en = false → s5 = s4) ∧ s5.result = .sample y ∧
    (∃ t, exec (.emit (fClamp y 0xBF800000#32 0x3F800000#32)) { s5 with result := s.result } = .next t ∧
      exec (.sample dt) s = .next t ∧ t.out = s.out ++ [fClamp y 0xBF800000#32 0x3F800000#32])) ∧
    (∀ (x : F32) (s : State), exec (.emit x) s = .next { s with out := s.out ++ [x] })

/-- O38. Every tick completes, emits exactly BLOCK_SIZE samples and touches nothing of the host's side (R241, R285,
R74). Here `hostData` and `hostErr` are the model's own fields (log 3); `result` is the model's own field (log 4);
frames come from the model's own `inbox` (log 1); BLOCK_SIZE is open (log 6). -/
def Obligations.TickEmitsExactlyOneBlock : Prop :=
  ∀ (now : U32) (s : State), ∃ t, exec (.tick now) s = .next t ∧
    (∃ block : List F32, t.out = s.out ++ block ∧ block.length = (Config.blockSize : Nat)) ∧
    t.evq = [] ∧ t.mboxPending = false ∧
    (∃ rs : List FaultRecord, t.faults = s.faults ++ rs ∧ rs.length ≤ 1) ∧
    t.cfgStage = s.cfgStage ∧ t.mboxSlot = s.mboxSlot ∧ t.evqOvf = s.evqOvf ∧ t.trkQueryArg = s.trkQueryArg ∧
    t.inbox = s.inbox ∧ t.hostData = s.hostData ∧ t.hostErr = s.hostErr ∧ t.result = s.result

/-- O39. A tick is ADOPT, DRAIN, one of the two voice arms, SET_RATES_STEP and BLOCK_SIZE samples, in that order (R241,
R242, R243, R244, R245, R246, R247, R248, R249, R250). Here `result` is the model's own field (log 4); BLOCK_SIZE is
open (log 6). -/
def Obligations.TickIsTheSequenceOfItsSteps : Prop :=
  ∀ (now : U32) (s : State), ∃ s1 s2 s3 s4 dt,
    exec .adopt s = .next s1 ∧ exec .drain s1 = .next s2 ∧
    (s2.trkLen = 0 → exec .emptyVoice s2 = .next s3) ∧
    (s2.trkLen ≠ 0 → ∃ u n, exec (.selectNote now) s2 = .next u ∧ u.result = .note n ∧
      exec (.retrigger n) { u with result := s.result } = .next s3) ∧
    exec .setRatesStep s3 = .next s4 ∧
    exec (.dt s4.voiceNote) s4 = .next { s4 with result := .sample dt } ∧
    (List.replicate (Config.blockSize : Nat) dt).foldl (fun o d => match o with
        | .next u => exec (.sample d) u
        | o => o) (.next s4 : StepOutcome) = exec (.tick now) s

/-- O40. After every tick the voice is enabled exactly when a note is held, and sounds the most recent one without
arpeggiator (R263, R245, R246, R247). -/
def Obligations.TickSettlesTheVoice : Prop :=
  ∀ (now : U32) (s : State), ∃ t, exec (.tick now) s = .next t ∧
    (t.voiceEn = true ↔ t.trkLen ≠ 0) ∧
    (t.cfgActive.arp.en = false → t.trkLen ≠ 0 → t.voiceNote = t.trkSlot[0]) ∧
    (t.trkLen = 0 → t.arpActive = false ∧ t.arpCounter = 0 ∧ t.arpLastMs = 0)

/-- O41. Every sample a tick emits is a NaN or in [-1, 1]; with the filter bypassed and the invariants met none is a NaN
(R250, R263, R215). BLOCK_SIZE is open (log 6); NUM_TAN is open (log 7), and the first claim holds whatever it is. -/
def Obligations.TickSamplesAreClampedToTheUnitRange : Prop :=
  ∀ (now : U32) (s : State),
    ∃ t block, exec (.tick now) s = .next t ∧ t.out = s.out ++ block ∧ block.length = (Config.blockSize : Nat) ∧
      (∀ x ∈ block, fIsNaN x = true ∨ (fLe 0xBF800000#32 x = true ∧ fLe x 0x3F800000#32 = true)) ∧
      (controlOk s → phasesOk s → envOk s → s.cfgActive.filt.en = false →
        (s.mboxPending = true → s.mboxSlot.filt.en = false) →
        ∀ x ∈ block, fLe 0xBF800000#32 x = true ∧ fLe x 0x3F800000#32 = true)

/-- O42. A CFG_STAGE write stores the defined bits of its word and nothing else; a read returns the stored word (R252,
R253, R103, R104, R73). Here `hostData` and `hostErr` are the model's own fields (log 3). -/
def Obligations.StagingWordsStoreTheirDefinedBitsAndReadBack : Prop :=
  (∀ (v : U32) (s : State),
    exec (.wrCfgStageArpCtrl v) s = .next { s with cfgStage := s.cfgStage.set 0 (v &&& 0x00000001#32), hostErr := false } ∧
    exec (.wrCfgStageArpBpm v) s = .next { s with cfgStage := s.cfgStage.set 1 (v &&& 0xFFFFFFFF#32), hostErr := false } ∧
    exec (.wrCfgStageArpDiv v) s = .next { s with cfgStage := s.cfgStage.set 2 (v &&& 0xFFFFFFFF#32), hostErr := false } ∧
    exec (.wrCfgStageOsc0Ctrl v) s = .next { s with cfgStage := s.cfgStage.set 3 (v &&& 0x00000007#32), hostErr := false } ∧
    exec (.wrCfgStageOsc0Fmult v) s = .next { s with cfgStage := s.cfgStage.set 4 (v &&& 0xFFFFFFFF#32), hostErr := false } ∧
    exec (.wrCfgStageOsc0Gain v) s = .next { s with cfgStage := s.cfgStage.set 5 (v &&& 0xFFFFFFFF#32), hostErr := false } ∧
    exec (.wrCfgStageOsc1Ctrl v) s = .next { s with cfgStage := s.cfgStage.set 6 (v &&& 0x00000007#32), hostErr := false } ∧
    exec (.wrCfgStageOsc1Fmult v) s = .next { s with cfgStage := s.cfgStage.set 7 (v &&& 0xFFFFFFFF#32), hostErr := false } ∧
    exec (.wrCfgStageOsc1Gain v) s = .next { s with cfgStage := s.cfgStage.set 8 (v &&& 0xFFFFFFFF#32), hostErr := false } ∧
    exec (.wrCfgStageOsc2Ctrl v) s = .next { s with cfgStage := s.cfgStage.set 9 (v &&& 0x00000007#32), hostErr := false } ∧
    exec (.wrCfgStageOsc2Fmult v) s = .next { s with cfgStage := s.cfgStage.set 10 (v &&& 0xFFFFFFFF#32), hostErr := false } ∧
    exec (.wrCfgStageOsc2Gain v) s = .next { s with cfgStage := s.cfgStage.set 11 (v &&& 0xFFFFFFFF#32), hostErr := false } ∧
    exec (.wrCfgStageEnvAttack v) s = .next { s with cfgStage := s.cfgStage.set 12 (v &&& 0xFFFFFFFF#32), hostErr := false } ∧
    exec (.wrCfgStageEnvDecay v) s = .next { s with cfgStage := s.cfgStage.set 13 (v &&& 0xFFFFFFFF#32), hostErr := false } ∧
    exec (.wrCfgStageEnvSustain v) s = .next { s with cfgStage := s.cfgStage.set 14 (v &&& 0xFFFFFFFF#32), hostErr := false } ∧
    exec (.wrCfgStageEnvRelease v) s = .next { s with cfgStage := s.cfgStage.set 15 (v &&& 0xFFFFFFFF#32), hostErr := false } ∧
    exec (.wrCfgStageBoostPre v) s = .next { s with cfgStage := s.cfgStage.set 16 (v &&& 0xFFFFFFFF#32), hostErr := false } ∧
    exec (.wrCfgStageBoostPost v) s = .next { s with cfgStage := s.cfgStage.set 17 (v &&& 0xFFFFFFFF#32), hostErr := false } ∧
    exec (.wrCfgStageFiltCtrl v) s = .next { s with cfgStage := s.cfgStage.set 18 (v &&& 0x00000003#32), hostErr := false } ∧
    exec (.wrCfgStageFiltCutoff v) s = .next { s with cfgStage := s.cfgStage.set 19 (v &&& 0xFFFFFFFF#32), hostErr := false } ∧
    exec (.wrCfgStageFiltRes v) s = .next { s with cfgStage := s.cfgStage.set 20 (v &&& 0xFFFFFFFF#32), hostErr := false } ∧
    exec (.wrCfgStageFiltContour v) s = .next { s with cfgStage := s.cfgStage.set 21 (v &&& 0xFFFFFFFF#32), hostErr := false }) ∧
    (∀ s : State,
    exec .rdCfgStageArpCtrl s = .next { s with hostData := s.cfgStage[0], hostErr := false } ∧
    exec .rdCfgStageArpBpm s = .next { s with hostData := s.cfgStage[1], hostErr := false } ∧
    exec .rdCfgStageArpDiv s = .next { s with hostData := s.cfgStage[2], hostErr := false } ∧
    exec .rdCfgStageOsc0Ctrl s = .next { s with hostData := s.cfgStage[3], hostErr := false } ∧
    exec .rdCfgStageOsc0Fmult s = .next { s with hostData := s.cfgStage[4], hostErr := false } ∧
    exec .rdCfgStageOsc0Gain s = .next { s with hostData := s.cfgStage[5], hostErr := false } ∧
    exec .rdCfgStageOsc1Ctrl s = .next { s with hostData := s.cfgStage[6], hostErr := false } ∧
    exec .rdCfgStageOsc1Fmult s = .next { s with hostData := s.cfgStage[7], hostErr := false } ∧
    exec .rdCfgStageOsc1Gain s = .next { s with hostData := s.cfgStage[8], hostErr := false } ∧
    exec .rdCfgStageOsc2Ctrl s = .next { s with hostData := s.cfgStage[9], hostErr := false } ∧
    exec .rdCfgStageOsc2Fmult s = .next { s with hostData := s.cfgStage[10], hostErr := false } ∧
    exec .rdCfgStageOsc2Gain s = .next { s with hostData := s.cfgStage[11], hostErr := false } ∧
    exec .rdCfgStageEnvAttack s = .next { s with hostData := s.cfgStage[12], hostErr := false } ∧
    exec .rdCfgStageEnvDecay s = .next { s with hostData := s.cfgStage[13], hostErr := false } ∧
    exec .rdCfgStageEnvSustain s = .next { s with hostData := s.cfgStage[14], hostErr := false } ∧
    exec .rdCfgStageEnvRelease s = .next { s with hostData := s.cfgStage[15], hostErr := false } ∧
    exec .rdCfgStageBoostPre s = .next { s with hostData := s.cfgStage[16], hostErr := false } ∧
    exec .rdCfgStageBoostPost s = .next { s with hostData := s.cfgStage[17], hostErr := false } ∧
    exec .rdCfgStageFiltCtrl s = .next { s with hostData := s.cfgStage[18], hostErr := false } ∧
    exec .rdCfgStageFiltCutoff s = .next { s with hostData := s.cfgStage[19], hostErr := false } ∧
    exec .rdCfgStageFiltRes s = .next { s with hostData := s.cfgStage[20], hostErr := false } ∧
    exec .rdCfgStageFiltContour s = .next { s with hostData := s.cfgStage[21], hostErr := false })

/-- O43. A CFG_ACTIVE read returns the active configuration in the layout of R100 and has no side effect (R253, R100,
R101, R73). Here `hostData` and `hostErr` are the model's own fields (log 3). -/
def Obligations.ActiveReadsReturnTheEncodedConfiguration : Prop :=
  ∀ s : State,
    exec .rdCfgActiveArpCtrl s =
      .next { s with hostData := BitVec.ofNat 32 s.cfgActive.arp.en.toNat, hostErr := false } ∧
    exec .rdCfgActiveArpBpm s =
      .next { s with hostData := s.cfgActive.arp.bpm, hostErr := false } ∧
    exec .rdCfgActiveArpDiv s =
      .next { s with hostData := s.cfgActive.arp.div, hostErr := false } ∧
    exec .rdCfgActiveOsc0Ctrl s =
      .next { s with hostData := BitVec.ofNat 32 (s.cfgActive.osc[0].en.toNat + 2 * s.cfgActive.osc[0].wave.toNat), hostErr := false } ∧
    exec .rdCfgActiveOsc0Fmult s =
      .next { s with hostData := s.cfgActive.osc[0].fmult, hostErr := false } ∧
    exec .rdCfgActiveOsc0Gain s =
      .next { s with hostData := s.cfgActive.osc[0].gain, hostErr := false } ∧
    exec .rdCfgActiveOsc1Ctrl s =
      .next { s with hostData := BitVec.ofNat 32 (s.cfgActive.osc[1].en.toNat + 2 * s.cfgActive.osc[1].wave.toNat), hostErr := false } ∧
    exec .rdCfgActiveOsc1Fmult s =
      .next { s with hostData := s.cfgActive.osc[1].fmult, hostErr := false } ∧
    exec .rdCfgActiveOsc1Gain s =
      .next { s with hostData := s.cfgActive.osc[1].gain, hostErr := false } ∧
    exec .rdCfgActiveOsc2Ctrl s =
      .next { s with hostData := BitVec.ofNat 32 (s.cfgActive.osc[2].en.toNat + 2 * s.cfgActive.osc[2].wave.toNat), hostErr := false } ∧
    exec .rdCfgActiveOsc2Fmult s =
      .next { s with hostData := s.cfgActive.osc[2].fmult, hostErr := false } ∧
    exec .rdCfgActiveOsc2Gain s =
      .next { s with hostData := s.cfgActive.osc[2].gain, hostErr := false } ∧
    exec .rdCfgActiveEnvAttack s =
      .next { s with hostData := s.cfgActive.env.attack, hostErr := false } ∧
    exec .rdCfgActiveEnvDecay s =
      .next { s with hostData := s.cfgActive.env.decay, hostErr := false } ∧
    exec .rdCfgActiveEnvSustain s =
      .next { s with hostData := s.cfgActive.env.sustain, hostErr := false } ∧
    exec .rdCfgActiveEnvRelease s =
      .next { s with hostData := s.cfgActive.env.release, hostErr := false } ∧
    exec .rdCfgActiveBoostPre s =
      .next { s with hostData := s.cfgActive.boost.pre, hostErr := false } ∧
    exec .rdCfgActiveBoostPost s =
      .next { s with hostData := s.cfgActive.boost.post, hostErr := false } ∧
    exec .rdCfgActiveFiltCtrl s =
      .next { s with hostData := BitVec.ofNat 32 (s.cfgActive.filt.en.toNat + 2 * s.cfgActive.filt.contourEn.toNat), hostErr := false } ∧
    exec .rdCfgActiveFiltCutoff s =
      .next { s with hostData := s.cfgActive.filt.cutoff, hostErr := false } ∧
    exec .rdCfgActiveFiltRes s =
      .next { s with hostData := s.cfgActive.filt.res, hostErr := false } ∧
    exec .rdCfgActiveFiltContour s =
      .next { s with hostData := s.cfgActive.filt.contour, hostErr := false }

/-- O44. A write to a read-only register is ignored, and a read of a write-only one returns 0 (R73, R106). Here
`hostData` and `hostErr` are the model's own fields (log 3). -/
def Obligations.ReadOnlyWritesAreIgnored : Prop :=
  ∀ (v : U32) (s : State),
    exec (.wrCfgActiveArpCtrl v) s = .next { s with hostErr := false } ∧
    exec (.wrCfgActiveArpBpm v) s = .next { s with hostErr := false } ∧
    exec (.wrCfgActiveArpDiv v) s = .next { s with hostErr := false } ∧
    exec (.wrCfgActiveOsc0Ctrl v) s = .next { s with hostErr := false } ∧
    exec (.wrCfgActiveOsc0Fmult v) s = .next { s with hostErr := false } ∧
    exec (.wrCfgActiveOsc0Gain v) s = .next { s with hostErr := false } ∧
    exec (.wrCfgActiveOsc1Ctrl v) s = .next { s with hostErr := false } ∧
    exec (.wrCfgActiveOsc1Fmult v) s = .next { s with hostErr := false } ∧
    exec (.wrCfgActiveOsc1Gain v) s = .next { s with hostErr := false } ∧
    exec (.wrCfgActiveOsc2Ctrl v) s = .next { s with hostErr := false } ∧
    exec (.wrCfgActiveOsc2Fmult v) s = .next { s with hostErr := false } ∧
    exec (.wrCfgActiveOsc2Gain v) s = .next { s with hostErr := false } ∧
    exec (.wrCfgActiveEnvAttack v) s = .next { s with hostErr := false } ∧
    exec (.wrCfgActiveEnvDecay v) s = .next { s with hostErr := false } ∧
    exec (.wrCfgActiveEnvSustain v) s = .next { s with hostErr := false } ∧
    exec (.wrCfgActiveEnvRelease v) s = .next { s with hostErr := false } ∧
    exec (.wrCfgActiveBoostPre v) s = .next { s with hostErr := false } ∧
    exec (.wrCfgActiveBoostPost v) s = .next { s with hostErr := false } ∧
    exec (.wrCfgActiveFiltCtrl v) s = .next { s with hostErr := false } ∧
    exec (.wrCfgActiveFiltCutoff v) s = .next { s with hostErr := false } ∧
    exec (.wrCfgActiveFiltRes v) s = .next { s with hostErr := false } ∧
    exec (.wrCfgActiveFiltContour v) s = .next { s with hostErr := false } ∧
    exec (.wrMboxStatus v) s = .next { s with hostErr := false } ∧
    exec (.wrVoiceStatus v) s = .next { s with hostErr := false } ∧
    exec (.wrEnvValue v) s = .next { s with hostErr := false } ∧
    exec (.wrArpCounter v) s = .next { s with hostErr := false } ∧
    exec (.wrArpLastMs v) s = .next { s with hostErr := false } ∧
    exec (.wrTrkSlots0 v) s = .next { s with hostErr := false } ∧
    exec (.wrTrkSlots1 v) s = .next { s with hostErr := false } ∧
    exec (.wrOscPhase0 v) s = .next { s with hostErr := false } ∧
    exec (.wrOscPhase1 v) s = .next { s with hostErr := false } ∧
    exec (.wrOscPhase2 v) s = .next { s with hostErr := false } ∧
    exec (.wrFiltState v) s = .next { s with hostErr := false } ∧
    exec (.wrFiltFc v) s = .next { s with hostErr := false } ∧
    exec (.wrEnvArate v) s = .next { s with hostErr := false } ∧
    exec (.wrEnvDrate v) s = .next { s with hostErr := false } ∧
    exec (.wrEnvRrate v) s = .next { s with hostErr := false } ∧
    exec (.wrEnvSus v) s = .next { s with hostErr := false } ∧
    exec .rdCfgCommit s = .next { s with hostData := 0, hostErr := false } ∧
    exec .rdEvtPush s = .next { s with hostData := 0, hostErr := false }

/-- O45. Every status register returns the element or the fields it names, every other bit zero (R107, R108, R109, R110,
R111, R255, R257, R259). Here `hostData` and `hostErr` are the model's own fields (log 3). -/
def Obligations.StatusReadsReturnTheirElementsAndFields : Prop :=
  (∀ s : State,
    exec .rdEnvValue s = .next { s with hostData := s.envValue, hostErr := false } ∧
    exec .rdArpCounter s = .next { s with hostData := s.arpCounter, hostErr := false } ∧
    exec .rdArpLastMs s = .next { s with hostData := s.arpLastMs, hostErr := false } ∧
    exec .rdOscPhase0 s = .next { s with hostData := s.oscPhase[0], hostErr := false } ∧
    exec .rdOscPhase1 s = .next { s with hostData := s.oscPhase[1], hostErr := false } ∧
    exec .rdOscPhase2 s = .next { s with hostData := s.oscPhase[2], hostErr := false } ∧
    exec .rdFiltState s = .next { s with hostData := s.filtS, hostErr := false } ∧
    exec .rdFiltFc s = .next { s with hostData := s.filtFc, hostErr := false } ∧
    exec .rdEnvArate s = .next { s with hostData := s.envArate, hostErr := false } ∧
    exec .rdEnvDrate s = .next { s with hostData := s.envDrate, hostErr := false } ∧
    exec .rdEnvRrate s = .next { s with hostData := s.envRrate, hostErr := false } ∧
    exec .rdEnvSus s = .next { s with hostData := s.envSus, hostErr := false }) ∧
    (∀ s : State,
    (∃ d : U32, exec .rdMboxStatus s = .next { s with hostData := d, hostErr := false } ∧ d.toNat = s.mboxPending.toNat) ∧
    (queueOk s → ∃ d : U32, exec .rdEvtStatus s = .next { s with hostData := d, hostErr := false } ∧
      d.toNat = s.evq.length + (if s.evq.length = 32 then 2 ^ 8 else 0) + s.evqOvf.toNat * 2 ^ 16) ∧
    (∃ d : U32, exec .rdVoiceStatus s = .next { s with hostData := d, hostErr := false } ∧
      d.toNat = s.voiceEn.toNat + s.voiceNote.toNat * 2 ^ 8
        + (match s.envStage with | .off => 0 | .attack => 1 | .decay => 2 | .sustain => 3 | .release => 4) * 2 ^ 16
        + s.trkLen.val * 2 ^ 20 + s.arpActive.toNat * 2 ^ 24) ∧
    (∃ d : U32, exec .rdTrkSlots0 s = .next { s with hostData := d, hostErr := false } ∧
      d.toNat = s.trkSlot[0].toNat + s.trkSlot[1].toNat * 2 ^ 8 + s.trkSlot[2].toNat * 2 ^ 16 + s.trkSlot[3].toNat * 2 ^ 24) ∧
    (∃ d : U32, exec .rdTrkSlots1 s = .next { s with hostData := d, hostErr := false } ∧ d.toNat = s.trkSlot[4].toNat))

/-- O46. TRK_QUERY stores its argument and reads back the three queries beside it (R112, R260, R261). Here `hostData`
and `hostErr` are the model's own fields (log 3); `result` is the model's own field (log 4). -/
def Obligations.TrackerQueryRegister : Prop :=
  ∀ (v : U32) (s : State),
    exec (.wrTrkQuery v) s = .next { s with trkQueryArg := v.extractLsb' 0 8, hostErr := false } ∧
    (∃ d : U32, exec .rdTrkQuery s = .next { s with hostData := d, hostErr := false } ∧
      d.extractLsb' 0 8 = s.trkQueryArg ∧
      exec (.trkRightOf s.trkQueryArg) s = .next { s with result := .note (d.extractLsb' 8 8) } ∧
      exec .trkSmallest s = .next { s with result := .note (d.extractLsb' 16 8) } ∧
      exec .trkMostRecent s = .next { s with result := .note (d.extractLsb' 24 8) })

/-- O47. EVT_PUSH queues a word unchanged or sets OVF when full; EVT_STATUS bit 16 clears OVF (R256, R258, R282). Here
`hostData` and `hostErr` are the model's own fields (log 3). -/
def Obligations.EventPushAndOverflowFlag : Prop :=
  ∀ (v : U32) (s : State),
    (s.evq.length < 32 → exec (.wrEvtPush v) s = .next { s with evq := s.evq ++ [v], hostErr := false }) ∧
    (32 ≤ s.evq.length → exec (.wrEvtPush v) s = .next { s with evqOvf := true, hostErr := false }) ∧
    (v.getLsbD 16 = true → exec (.wrEvtStatus v) s = .next { s with evqOvf := false, hostErr := false }) ∧
    (v.getLsbD 16 = false → exec (.wrEvtStatus v) s = .next { s with hostErr := false })

/-- O48. A commit followed by a tick makes a legal staged image the active configuration, word for word (R254, R105,
R242, R253). Here `hostData` and `hostErr` are the model's own fields (log 3). -/
def Obligations.CommittedConfigurationReadsBackAfterATick : Prop :=
  ∀ (v now : U32) (s : State), ∃ t, exec (.wrCfgCommit v) s = .next t ∧
    t = { s with mboxSlot := decodeCfg s.cfgStage, mboxPending := true, hostErr := false } ∧
    (stageOk s → legal (decodeCfg s.cfgStage) = true →
      ∃ u, exec (.tick now) t = .next u ∧ ∀ k : Fin 22, (encodeCfg u.cfgActive)[k] = s.cfgStage[k])

/-- O49. decode_cfg and encode_cfg are inverse, bit for bit, on images with zero reserved bits (R105, R104, R100). -/
def Obligations.DecodeCfgInvertsEncodeCfg : Prop :=
  (∀ c : SynthConfig, decodeCfg (encodeCfg c) = c) ∧
    ∀ img : Vector U32 22, (∀ k : Fin 22, img[k] &&& cfgMask k = img[k]) → encodeCfg (decodeCfg img) = img

/-- O50. An aligned 4-byte read of any offset changes nothing but the host's response (R73, R71, R49). Here `hostData`
and `hostErr` are the model's own fields (log 3). -/
def Obligations.ReadsHaveNoSideEffect : Prop :=
  ∀ (addr : Offset) (s : State), addr.toNat % 4 = 0 →
    ∃ t, exec (decode (.access (.read addr 4))) s = .next t ∧ t = { s with hostData := t.hostData, hostErr := false } ∧
      exec (decode (.access (.read addr 4))) t = .next t ∧
      (reservedOffset addr = true → exec (.rdReserved addr) s = .next t ∧ t.hostData = 0)

/-- O51. A write of any offset changes at most the staging image, the mailbox, the queue, OVF and the query argument
(R71, R73, R252, R254, R256, R258, R260). Here `hostData` and `hostErr` are the model's own fields (log 3). -/
def Obligations.WritesReachOnlyTheHostSideOfTheVE : Prop :=
  ∀ (addr : Offset) (v : U32) (s : State), addr.toNat % 4 = 0 →
    ∃ t, exec (decode (.access (.write addr 4 v))) s = .next t ∧
      t = { s with
        cfgStage := t.cfgStage, mboxSlot := t.mboxSlot, mboxPending := t.mboxPending, evq := t.evq, evqOvf := t.evqOvf
        trkQueryArg := t.trkQueryArg, hostErr := false } ∧
      (reservedOffset addr = true → exec (.wrReserved addr v) s = .next t ∧ t = { s with hostErr := false })

/-- O52. An access that is not an aligned 4-byte one records BusError, answers an error and changes nothing else;
BusError is code 1, IllegalConfig code 2 (R71, R281, R286). Here `hostData` and `hostErr` are the model's own fields
(log 3); a code is computed from its record (log 23). -/
def Obligations.IllegalAccessesAreRecordedAndDoNothing : Prop :=
  (∀ (addr : Offset) (size : Nat) (v : U32) (s : State), size ≠ 4 ∨ addr.toNat % 4 ≠ 0 →
      decode (.access (.read addr size)) = .busError (.read addr size) ∧
      decode (.access (.write addr size v)) = .busError (.write addr size v) ∧
      exec (.busError (.read addr size)) s =
        .next { s with faults := s.faults ++ [.busError false addr size], hostData := 0, hostErr := true } ∧
      exec (.busError (.write addr size v)) s =
        .next { s with faults := s.faults ++ [.busError true addr size], hostErr := true } ∧
      faultCode (.busError false addr size) = 1 ∧ faultCode (.busError true addr size) = 1) ∧
    ∀ c : SynthConfig, faultCode (.illegalConfig c) = 2

/-- O53. Reset sets every state element to the value of R300, and the reset configuration is legal (R300). -/
def Obligations.ResetSetsEveryElement : Prop :=
  State.reset.cfgActive = resetConfig ∧ State.reset.mboxSlot = resetConfig ∧
    State.reset.mboxPending = false ∧ State.reset.evq = [] ∧ State.reset.evqOvf = false ∧
    State.reset.trkSlot = #v[255, 255, 255, 255, 255] ∧ State.reset.trkLen = 0 ∧
    State.reset.trkQueryArg = 255 ∧ State.reset.arpActive = false ∧ State.reset.arpLastMs = 0 ∧
    State.reset.arpCounter = 0 ∧ State.reset.voiceEn = false ∧ State.reset.voiceNote = 255 ∧
    State.reset.oscPhase = #v[0, 0, 0] ∧ State.reset.envStage = .off ∧ State.reset.envValue = 0 ∧
    State.reset.envArate = 0x3B149B93#32 ∧ State.reset.envDrate = 0x396DC5B8#32 ∧ State.reset.envRrate = 0x38EDC5B8#32 ∧
    State.reset.envSus = 0x3F333333#32 ∧ State.reset.filtS = 0 ∧ State.reset.filtFc = 0x469C4000#32 ∧
    State.reset.out = [] ∧ State.reset.faults = [] ∧
    State.reset.cfgStage = encodeCfg resetConfig ∧ legal resetConfig = true ∧
    envSetRates resetConfig.env State.reset = State.reset

/-- O54. After reset every register of the window reads the value listed for it (R301). Here `hostData` and `hostErr`
are the model's own fields (log 3). -/
def Obligations.ResetReadsAreTheListedValues : Prop :=
  (∀ k : Fin 22, ∀ base ∈ [(0x000 : Nat), 0x100], ∃ t,
      exec (decode (.access (.read (BitVec.ofNat 9 (base + 4 * k.val)) 4))) State.reset = .next t ∧ t.hostErr = false ∧
      t.hostData = (#v[0x00000000#32, 0x00000078#32, 0x00000001#32, 0x00000003#32, 0x3F800000#32, 0x3F800000#32, 0x00000002#32, 0x3F800000#32,
        0x3F800000#32, 0x00000002#32, 0x3F800000#32, 0x3F800000#32, 0x3C23D70A#32, 0x3DCCCCCD#32, 0x3F333333#32, 0x3E4CCCCD#32,
        0x3F800000#32, 0x3F800000#32, 0x00000000#32, 0x469C4000#32, 0x00000000#32, 0x00000000#32] : Vector U32 22)[k]) ∧
    (∀ p ∈ ([(0x080, 0), (0x084, 0), (0x088, 0), (0x08C, 0), (0x090, 0x0000FF00#32), (0x094, 0),
        (0x098, 0), (0x09C, 0), (0x0A0, 0xFFFFFFFF#32), (0x0A4, 0x000000FF#32), (0x0A8, 0xFFFFFFFF#32), (0x0AC, 0),
        (0x0B0, 0), (0x0B4, 0), (0x0B8, 0), (0x0BC, 0x469C4000#32), (0x0C0, 0x3B149B93#32), (0x0C4, 0x396DC5B8#32),
        (0x0C8, 0x38EDC5B8#32), (0x0CC, 0x3F333333#32)] : List (Offset × U32)), ∃ t,
      exec (decode (.access (.read p.1 4))) State.reset = .next t ∧ t.hostErr = false ∧ t.hostData = p.2) ∧
    (∀ addr : Offset, addr.toNat % 4 = 0 → reservedOffset addr = true → ∃ t,
      exec (decode (.access (.read addr 4))) State.reset = .next t ∧ t.hostErr = false ∧ t.hostData = 0)

/-- O55. The reset state meets the control, phase, envelope and cutoff invariants (R38, R42, R43, R45, R300). -/
def Obligations.ResetMeetsTheInvariants : Prop :=
  controlOk State.reset ∧ phasesOk State.reset ∧ envOk State.reset ∧ cutoffOk State.reset

/-- O56. Every step keeps the tracker, queue, staging, configuration and voice invariants (R38, R130, R37, R104, R33,
R41, R138). Frames come from the model's own `inbox` (log 1). -/
def Obligations.StepKeepsTheControlInvariants : Prop :=
  ∀ s t : State, controlOk s → step s = .next t → controlOk t

/-- O57. Every step keeps every oscillator phase in [0,1), never -0.0 (R42, R178, R179). Frames come from the model's
own `inbox` (log 1). -/
def Obligations.StepKeepsPhasesInRange : Prop :=
  ∀ s t : State, controlOk s → phasesOk s → step s = .next t → phasesOk t

/-- O58. Every step keeps the envelope value in [0,1] and Off at +0.0 (R43, R200). Frames come from the model's own
`inbox` (log 1). -/
def Obligations.StepKeepsTheEnvelopeInRange : Prop :=
  ∀ s t : State, controlOk s → envOk s → step s = .next t → envOk t

/-- O59. Every step keeps the smoothed cutoff in [20, 20000] (R45, R211, R216). Frames come from the model's own `inbox`
(log 1). -/
def Obligations.StepKeepsTheCutoffInRange : Prop :=
  ∀ s t : State, controlOk s → envOk s → cutoffOk s → step s = .next t → cutoffOk t

/-- O60. Every step answers a next state, and no step removes a fault record or an emitted sample (R280, R281, R47,
R46). Frames come from the model's own `inbox` (log 1). -/
def Obligations.StepAlwaysCompletesAndRecordsAreSticky : Prop :=
  ∀ s : State, ∃ t, step s = .next t ∧
    (∃ rs : List FaultRecord, t.faults = s.faults ++ rs ∧ rs.length ≤ 1) ∧ ∃ xs : List F32, t.out = s.out ++ xs
end

