-- ==== Sys2Proof/Laws/State.lean ====
section
/-! SUPPORT. One lemma for each field of State and each update the meanings share, so that no proof unfolds a record
update. -/

namespace Sys2Proof.Machine

-- One theorem at a time: many at once ask for more threads than the memory limit of the check leaves room for.
set_option Elab.async false

/-! ## hostRead -/

@[simp] theorem hostRead_cfgActive (v : U32) (s : State) : (hostRead v s).cfgActive = s.cfgActive := rfl
@[simp] theorem hostRead_cfgStage (v : U32) (s : State) : (hostRead v s).cfgStage = s.cfgStage := rfl
@[simp] theorem hostRead_mboxSlot (v : U32) (s : State) : (hostRead v s).mboxSlot = s.mboxSlot := rfl
@[simp] theorem hostRead_mboxPending (v : U32) (s : State) : (hostRead v s).mboxPending = s.mboxPending := rfl
@[simp] theorem hostRead_evq (v : U32) (s : State) : (hostRead v s).evq = s.evq := rfl
@[simp] theorem hostRead_evqOvf (v : U32) (s : State) : (hostRead v s).evqOvf = s.evqOvf := rfl
@[simp] theorem hostRead_trkSlot (v : U32) (s : State) : (hostRead v s).trkSlot = s.trkSlot := rfl
@[simp] theorem hostRead_trkLen (v : U32) (s : State) : (hostRead v s).trkLen = s.trkLen := rfl
@[simp] theorem hostRead_trkQueryArg (v : U32) (s : State) : (hostRead v s).trkQueryArg = s.trkQueryArg := rfl
@[simp] theorem hostRead_arpActive (v : U32) (s : State) : (hostRead v s).arpActive = s.arpActive := rfl
@[simp] theorem hostRead_arpLastMs (v : U32) (s : State) : (hostRead v s).arpLastMs = s.arpLastMs := rfl
@[simp] theorem hostRead_arpCounter (v : U32) (s : State) : (hostRead v s).arpCounter = s.arpCounter := rfl
@[simp] theorem hostRead_voiceEn (v : U32) (s : State) : (hostRead v s).voiceEn = s.voiceEn := rfl
@[simp] theorem hostRead_voiceNote (v : U32) (s : State) : (hostRead v s).voiceNote = s.voiceNote := rfl
@[simp] theorem hostRead_oscPhase (v : U32) (s : State) : (hostRead v s).oscPhase = s.oscPhase := rfl
@[simp] theorem hostRead_envStage (v : U32) (s : State) : (hostRead v s).envStage = s.envStage := rfl
@[simp] theorem hostRead_envValue (v : U32) (s : State) : (hostRead v s).envValue = s.envValue := rfl
@[simp] theorem hostRead_envArate (v : U32) (s : State) : (hostRead v s).envArate = s.envArate := rfl
@[simp] theorem hostRead_envDrate (v : U32) (s : State) : (hostRead v s).envDrate = s.envDrate := rfl
@[simp] theorem hostRead_envRrate (v : U32) (s : State) : (hostRead v s).envRrate = s.envRrate := rfl
@[simp] theorem hostRead_envSus (v : U32) (s : State) : (hostRead v s).envSus = s.envSus := rfl
@[simp] theorem hostRead_filtS (v : U32) (s : State) : (hostRead v s).filtS = s.filtS := rfl
@[simp] theorem hostRead_filtFc (v : U32) (s : State) : (hostRead v s).filtFc = s.filtFc := rfl
@[simp] theorem hostRead_out (v : U32) (s : State) : (hostRead v s).out = s.out := rfl
@[simp] theorem hostRead_faults (v : U32) (s : State) : (hostRead v s).faults = s.faults := rfl
@[simp] theorem hostRead_inbox (v : U32) (s : State) : (hostRead v s).inbox = s.inbox := rfl
@[simp] theorem hostRead_hostData (v : U32) (s : State) : (hostRead v s).hostData = v := rfl
@[simp] theorem hostRead_hostErr (v : U32) (s : State) : (hostRead v s).hostErr = false := rfl
@[simp] theorem hostRead_result (v : U32) (s : State) : (hostRead v s).result = s.result := rfl

/-! ## hostWrote -/

@[simp] theorem hostWrote_cfgActive (s : State) : (hostWrote s).cfgActive = s.cfgActive := rfl
@[simp] theorem hostWrote_cfgStage (s : State) : (hostWrote s).cfgStage = s.cfgStage := rfl
@[simp] theorem hostWrote_mboxSlot (s : State) : (hostWrote s).mboxSlot = s.mboxSlot := rfl
@[simp] theorem hostWrote_mboxPending (s : State) : (hostWrote s).mboxPending = s.mboxPending := rfl
@[simp] theorem hostWrote_evq (s : State) : (hostWrote s).evq = s.evq := rfl
@[simp] theorem hostWrote_evqOvf (s : State) : (hostWrote s).evqOvf = s.evqOvf := rfl
@[simp] theorem hostWrote_trkSlot (s : State) : (hostWrote s).trkSlot = s.trkSlot := rfl
@[simp] theorem hostWrote_trkLen (s : State) : (hostWrote s).trkLen = s.trkLen := rfl
@[simp] theorem hostWrote_trkQueryArg (s : State) : (hostWrote s).trkQueryArg = s.trkQueryArg := rfl
@[simp] theorem hostWrote_arpActive (s : State) : (hostWrote s).arpActive = s.arpActive := rfl
@[simp] theorem hostWrote_arpLastMs (s : State) : (hostWrote s).arpLastMs = s.arpLastMs := rfl
@[simp] theorem hostWrote_arpCounter (s : State) : (hostWrote s).arpCounter = s.arpCounter := rfl
@[simp] theorem hostWrote_voiceEn (s : State) : (hostWrote s).voiceEn = s.voiceEn := rfl
@[simp] theorem hostWrote_voiceNote (s : State) : (hostWrote s).voiceNote = s.voiceNote := rfl
@[simp] theorem hostWrote_oscPhase (s : State) : (hostWrote s).oscPhase = s.oscPhase := rfl
@[simp] theorem hostWrote_envStage (s : State) : (hostWrote s).envStage = s.envStage := rfl
@[simp] theorem hostWrote_envValue (s : State) : (hostWrote s).envValue = s.envValue := rfl
@[simp] theorem hostWrote_envArate (s : State) : (hostWrote s).envArate = s.envArate := rfl
@[simp] theorem hostWrote_envDrate (s : State) : (hostWrote s).envDrate = s.envDrate := rfl
@[simp] theorem hostWrote_envRrate (s : State) : (hostWrote s).envRrate = s.envRrate := rfl
@[simp] theorem hostWrote_envSus (s : State) : (hostWrote s).envSus = s.envSus := rfl
@[simp] theorem hostWrote_filtS (s : State) : (hostWrote s).filtS = s.filtS := rfl
@[simp] theorem hostWrote_filtFc (s : State) : (hostWrote s).filtFc = s.filtFc := rfl
@[simp] theorem hostWrote_out (s : State) : (hostWrote s).out = s.out := rfl
@[simp] theorem hostWrote_faults (s : State) : (hostWrote s).faults = s.faults := rfl
@[simp] theorem hostWrote_inbox (s : State) : (hostWrote s).inbox = s.inbox := rfl
@[simp] theorem hostWrote_hostData (s : State) : (hostWrote s).hostData = s.hostData := rfl
@[simp] theorem hostWrote_hostErr (s : State) : (hostWrote s).hostErr = false := rfl
@[simp] theorem hostWrote_result (s : State) : (hostWrote s).result = s.result := rfl

/-! ## raiseFault -/

@[simp] theorem raiseFault_cfgActive (r : FaultRecord) (s : State) : (raiseFault r s).cfgActive = s.cfgActive := rfl
@[simp] theorem raiseFault_cfgStage (r : FaultRecord) (s : State) : (raiseFault r s).cfgStage = s.cfgStage := rfl
@[simp] theorem raiseFault_mboxSlot (r : FaultRecord) (s : State) : (raiseFault r s).mboxSlot = s.mboxSlot := rfl
@[simp] theorem raiseFault_mboxPending (r : FaultRecord) (s : State) : (raiseFault r s).mboxPending = s.mboxPending := rfl
@[simp] theorem raiseFault_evq (r : FaultRecord) (s : State) : (raiseFault r s).evq = s.evq := rfl
@[simp] theorem raiseFault_evqOvf (r : FaultRecord) (s : State) : (raiseFault r s).evqOvf = s.evqOvf := rfl
@[simp] theorem raiseFault_trkSlot (r : FaultRecord) (s : State) : (raiseFault r s).trkSlot = s.trkSlot := rfl
@[simp] theorem raiseFault_trkLen (r : FaultRecord) (s : State) : (raiseFault r s).trkLen = s.trkLen := rfl
@[simp] theorem raiseFault_trkQueryArg (r : FaultRecord) (s : State) : (raiseFault r s).trkQueryArg = s.trkQueryArg := rfl
@[simp] theorem raiseFault_arpActive (r : FaultRecord) (s : State) : (raiseFault r s).arpActive = s.arpActive := rfl
@[simp] theorem raiseFault_arpLastMs (r : FaultRecord) (s : State) : (raiseFault r s).arpLastMs = s.arpLastMs := rfl
@[simp] theorem raiseFault_arpCounter (r : FaultRecord) (s : State) : (raiseFault r s).arpCounter = s.arpCounter := rfl
@[simp] theorem raiseFault_voiceEn (r : FaultRecord) (s : State) : (raiseFault r s).voiceEn = s.voiceEn := rfl
@[simp] theorem raiseFault_voiceNote (r : FaultRecord) (s : State) : (raiseFault r s).voiceNote = s.voiceNote := rfl
@[simp] theorem raiseFault_oscPhase (r : FaultRecord) (s : State) : (raiseFault r s).oscPhase = s.oscPhase := rfl
@[simp] theorem raiseFault_envStage (r : FaultRecord) (s : State) : (raiseFault r s).envStage = s.envStage := rfl
@[simp] theorem raiseFault_envValue (r : FaultRecord) (s : State) : (raiseFault r s).envValue = s.envValue := rfl
@[simp] theorem raiseFault_envArate (r : FaultRecord) (s : State) : (raiseFault r s).envArate = s.envArate := rfl
@[simp] theorem raiseFault_envDrate (r : FaultRecord) (s : State) : (raiseFault r s).envDrate = s.envDrate := rfl
@[simp] theorem raiseFault_envRrate (r : FaultRecord) (s : State) : (raiseFault r s).envRrate = s.envRrate := rfl
@[simp] theorem raiseFault_envSus (r : FaultRecord) (s : State) : (raiseFault r s).envSus = s.envSus := rfl
@[simp] theorem raiseFault_filtS (r : FaultRecord) (s : State) : (raiseFault r s).filtS = s.filtS := rfl
@[simp] theorem raiseFault_filtFc (r : FaultRecord) (s : State) : (raiseFault r s).filtFc = s.filtFc := rfl
@[simp] theorem raiseFault_out (r : FaultRecord) (s : State) : (raiseFault r s).out = s.out := rfl
@[simp] theorem raiseFault_faults (r : FaultRecord) (s : State) : (raiseFault r s).faults = s.faults ++ [r] := rfl
@[simp] theorem raiseFault_inbox (r : FaultRecord) (s : State) : (raiseFault r s).inbox = s.inbox := rfl
@[simp] theorem raiseFault_hostData (r : FaultRecord) (s : State) : (raiseFault r s).hostData = s.hostData := rfl
@[simp] theorem raiseFault_hostErr (r : FaultRecord) (s : State) : (raiseFault r s).hostErr = s.hostErr := rfl
@[simp] theorem raiseFault_result (r : FaultRecord) (s : State) : (raiseFault r s).result = s.result := rfl

/-! ## returnValue -/

@[simp] theorem returnValue_cfgActive (r : Result) (s : State) : (returnValue r s).cfgActive = s.cfgActive := rfl
@[simp] theorem returnValue_cfgStage (r : Result) (s : State) : (returnValue r s).cfgStage = s.cfgStage := rfl
@[simp] theorem returnValue_mboxSlot (r : Result) (s : State) : (returnValue r s).mboxSlot = s.mboxSlot := rfl
@[simp] theorem returnValue_mboxPending (r : Result) (s : State) : (returnValue r s).mboxPending = s.mboxPending := rfl
@[simp] theorem returnValue_evq (r : Result) (s : State) : (returnValue r s).evq = s.evq := rfl
@[simp] theorem returnValue_evqOvf (r : Result) (s : State) : (returnValue r s).evqOvf = s.evqOvf := rfl
@[simp] theorem returnValue_trkSlot (r : Result) (s : State) : (returnValue r s).trkSlot = s.trkSlot := rfl
@[simp] theorem returnValue_trkLen (r : Result) (s : State) : (returnValue r s).trkLen = s.trkLen := rfl
@[simp] theorem returnValue_trkQueryArg (r : Result) (s : State) : (returnValue r s).trkQueryArg = s.trkQueryArg := rfl
@[simp] theorem returnValue_arpActive (r : Result) (s : State) : (returnValue r s).arpActive = s.arpActive := rfl
@[simp] theorem returnValue_arpLastMs (r : Result) (s : State) : (returnValue r s).arpLastMs = s.arpLastMs := rfl
@[simp] theorem returnValue_arpCounter (r : Result) (s : State) : (returnValue r s).arpCounter = s.arpCounter := rfl
@[simp] theorem returnValue_voiceEn (r : Result) (s : State) : (returnValue r s).voiceEn = s.voiceEn := rfl
@[simp] theorem returnValue_voiceNote (r : Result) (s : State) : (returnValue r s).voiceNote = s.voiceNote := rfl
@[simp] theorem returnValue_oscPhase (r : Result) (s : State) : (returnValue r s).oscPhase = s.oscPhase := rfl
@[simp] theorem returnValue_envStage (r : Result) (s : State) : (returnValue r s).envStage = s.envStage := rfl
@[simp] theorem returnValue_envValue (r : Result) (s : State) : (returnValue r s).envValue = s.envValue := rfl
@[simp] theorem returnValue_envArate (r : Result) (s : State) : (returnValue r s).envArate = s.envArate := rfl
@[simp] theorem returnValue_envDrate (r : Result) (s : State) : (returnValue r s).envDrate = s.envDrate := rfl
@[simp] theorem returnValue_envRrate (r : Result) (s : State) : (returnValue r s).envRrate = s.envRrate := rfl
@[simp] theorem returnValue_envSus (r : Result) (s : State) : (returnValue r s).envSus = s.envSus := rfl
@[simp] theorem returnValue_filtS (r : Result) (s : State) : (returnValue r s).filtS = s.filtS := rfl
@[simp] theorem returnValue_filtFc (r : Result) (s : State) : (returnValue r s).filtFc = s.filtFc := rfl
@[simp] theorem returnValue_out (r : Result) (s : State) : (returnValue r s).out = s.out := rfl
@[simp] theorem returnValue_faults (r : Result) (s : State) : (returnValue r s).faults = s.faults := rfl
@[simp] theorem returnValue_inbox (r : Result) (s : State) : (returnValue r s).inbox = s.inbox := rfl
@[simp] theorem returnValue_hostData (r : Result) (s : State) : (returnValue r s).hostData = s.hostData := rfl
@[simp] theorem returnValue_hostErr (r : Result) (s : State) : (returnValue r s).hostErr = s.hostErr := rfl
@[simp] theorem returnValue_result (r : Result) (s : State) : (returnValue r s).result = r := rfl

/-! ## stageWrite -/

@[simp] theorem stageWrite_cfgActive (k : Fin 22) (v : U32) (s : State) : (stageWrite k v s).cfgActive = s.cfgActive := rfl
@[simp] theorem stageWrite_cfgStage (k : Fin 22) (v : U32) (s : State) : (stageWrite k v s).cfgStage = s.cfgStage.set k (v &&& cfgMask k) := rfl
@[simp] theorem stageWrite_mboxSlot (k : Fin 22) (v : U32) (s : State) : (stageWrite k v s).mboxSlot = s.mboxSlot := rfl
@[simp] theorem stageWrite_mboxPending (k : Fin 22) (v : U32) (s : State) : (stageWrite k v s).mboxPending = s.mboxPending := rfl
@[simp] theorem stageWrite_evq (k : Fin 22) (v : U32) (s : State) : (stageWrite k v s).evq = s.evq := rfl
@[simp] theorem stageWrite_evqOvf (k : Fin 22) (v : U32) (s : State) : (stageWrite k v s).evqOvf = s.evqOvf := rfl
@[simp] theorem stageWrite_trkSlot (k : Fin 22) (v : U32) (s : State) : (stageWrite k v s).trkSlot = s.trkSlot := rfl
@[simp] theorem stageWrite_trkLen (k : Fin 22) (v : U32) (s : State) : (stageWrite k v s).trkLen = s.trkLen := rfl
@[simp] theorem stageWrite_trkQueryArg (k : Fin 22) (v : U32) (s : State) : (stageWrite k v s).trkQueryArg = s.trkQueryArg := rfl
@[simp] theorem stageWrite_arpActive (k : Fin 22) (v : U32) (s : State) : (stageWrite k v s).arpActive = s.arpActive := rfl
@[simp] theorem stageWrite_arpLastMs (k : Fin 22) (v : U32) (s : State) : (stageWrite k v s).arpLastMs = s.arpLastMs := rfl
@[simp] theorem stageWrite_arpCounter (k : Fin 22) (v : U32) (s : State) : (stageWrite k v s).arpCounter = s.arpCounter := rfl
@[simp] theorem stageWrite_voiceEn (k : Fin 22) (v : U32) (s : State) : (stageWrite k v s).voiceEn = s.voiceEn := rfl
@[simp] theorem stageWrite_voiceNote (k : Fin 22) (v : U32) (s : State) : (stageWrite k v s).voiceNote = s.voiceNote := rfl
@[simp] theorem stageWrite_oscPhase (k : Fin 22) (v : U32) (s : State) : (stageWrite k v s).oscPhase = s.oscPhase := rfl
@[simp] theorem stageWrite_envStage (k : Fin 22) (v : U32) (s : State) : (stageWrite k v s).envStage = s.envStage := rfl
@[simp] theorem stageWrite_envValue (k : Fin 22) (v : U32) (s : State) : (stageWrite k v s).envValue = s.envValue := rfl
@[simp] theorem stageWrite_envArate (k : Fin 22) (v : U32) (s : State) : (stageWrite k v s).envArate = s.envArate := rfl
@[simp] theorem stageWrite_envDrate (k : Fin 22) (v : U32) (s : State) : (stageWrite k v s).envDrate = s.envDrate := rfl
@[simp] theorem stageWrite_envRrate (k : Fin 22) (v : U32) (s : State) : (stageWrite k v s).envRrate = s.envRrate := rfl
@[simp] theorem stageWrite_envSus (k : Fin 22) (v : U32) (s : State) : (stageWrite k v s).envSus = s.envSus := rfl
@[simp] theorem stageWrite_filtS (k : Fin 22) (v : U32) (s : State) : (stageWrite k v s).filtS = s.filtS := rfl
@[simp] theorem stageWrite_filtFc (k : Fin 22) (v : U32) (s : State) : (stageWrite k v s).filtFc = s.filtFc := rfl
@[simp] theorem stageWrite_out (k : Fin 22) (v : U32) (s : State) : (stageWrite k v s).out = s.out := rfl
@[simp] theorem stageWrite_faults (k : Fin 22) (v : U32) (s : State) : (stageWrite k v s).faults = s.faults := rfl
@[simp] theorem stageWrite_inbox (k : Fin 22) (v : U32) (s : State) : (stageWrite k v s).inbox = s.inbox := rfl
@[simp] theorem stageWrite_hostData (k : Fin 22) (v : U32) (s : State) : (stageWrite k v s).hostData = s.hostData := rfl
@[simp] theorem stageWrite_hostErr (k : Fin 22) (v : U32) (s : State) : (stageWrite k v s).hostErr = s.hostErr := rfl
@[simp] theorem stageWrite_result (k : Fin 22) (v : U32) (s : State) : (stageWrite k v s).result = s.result := rfl

/-! ## commit -/

@[simp] theorem commit_cfgActive (s : State) : (commit s).cfgActive = s.cfgActive := rfl
@[simp] theorem commit_cfgStage (s : State) : (commit s).cfgStage = s.cfgStage := rfl
@[simp] theorem commit_mboxSlot (s : State) : (commit s).mboxSlot = decodeCfg s.cfgStage := rfl
@[simp] theorem commit_mboxPending (s : State) : (commit s).mboxPending = true := rfl
@[simp] theorem commit_evq (s : State) : (commit s).evq = s.evq := rfl
@[simp] theorem commit_evqOvf (s : State) : (commit s).evqOvf = s.evqOvf := rfl
@[simp] theorem commit_trkSlot (s : State) : (commit s).trkSlot = s.trkSlot := rfl
@[simp] theorem commit_trkLen (s : State) : (commit s).trkLen = s.trkLen := rfl
@[simp] theorem commit_trkQueryArg (s : State) : (commit s).trkQueryArg = s.trkQueryArg := rfl
@[simp] theorem commit_arpActive (s : State) : (commit s).arpActive = s.arpActive := rfl
@[simp] theorem commit_arpLastMs (s : State) : (commit s).arpLastMs = s.arpLastMs := rfl
@[simp] theorem commit_arpCounter (s : State) : (commit s).arpCounter = s.arpCounter := rfl
@[simp] theorem commit_voiceEn (s : State) : (commit s).voiceEn = s.voiceEn := rfl
@[simp] theorem commit_voiceNote (s : State) : (commit s).voiceNote = s.voiceNote := rfl
@[simp] theorem commit_oscPhase (s : State) : (commit s).oscPhase = s.oscPhase := rfl
@[simp] theorem commit_envStage (s : State) : (commit s).envStage = s.envStage := rfl
@[simp] theorem commit_envValue (s : State) : (commit s).envValue = s.envValue := rfl
@[simp] theorem commit_envArate (s : State) : (commit s).envArate = s.envArate := rfl
@[simp] theorem commit_envDrate (s : State) : (commit s).envDrate = s.envDrate := rfl
@[simp] theorem commit_envRrate (s : State) : (commit s).envRrate = s.envRrate := rfl
@[simp] theorem commit_envSus (s : State) : (commit s).envSus = s.envSus := rfl
@[simp] theorem commit_filtS (s : State) : (commit s).filtS = s.filtS := rfl
@[simp] theorem commit_filtFc (s : State) : (commit s).filtFc = s.filtFc := rfl
@[simp] theorem commit_out (s : State) : (commit s).out = s.out := rfl
@[simp] theorem commit_faults (s : State) : (commit s).faults = s.faults := rfl
@[simp] theorem commit_inbox (s : State) : (commit s).inbox = s.inbox := rfl
@[simp] theorem commit_hostData (s : State) : (commit s).hostData = s.hostData := rfl
@[simp] theorem commit_hostErr (s : State) : (commit s).hostErr = s.hostErr := rfl
@[simp] theorem commit_result (s : State) : (commit s).result = s.result := rfl

/-! ## queryWrite -/

@[simp] theorem queryWrite_cfgActive (v : U32) (s : State) : (queryWrite v s).cfgActive = s.cfgActive := rfl
@[simp] theorem queryWrite_cfgStage (v : U32) (s : State) : (queryWrite v s).cfgStage = s.cfgStage := rfl
@[simp] theorem queryWrite_mboxSlot (v : U32) (s : State) : (queryWrite v s).mboxSlot = s.mboxSlot := rfl
@[simp] theorem queryWrite_mboxPending (v : U32) (s : State) : (queryWrite v s).mboxPending = s.mboxPending := rfl
@[simp] theorem queryWrite_evq (v : U32) (s : State) : (queryWrite v s).evq = s.evq := rfl
@[simp] theorem queryWrite_evqOvf (v : U32) (s : State) : (queryWrite v s).evqOvf = s.evqOvf := rfl
@[simp] theorem queryWrite_trkSlot (v : U32) (s : State) : (queryWrite v s).trkSlot = s.trkSlot := rfl
@[simp] theorem queryWrite_trkLen (v : U32) (s : State) : (queryWrite v s).trkLen = s.trkLen := rfl
@[simp] theorem queryWrite_trkQueryArg (v : U32) (s : State) : (queryWrite v s).trkQueryArg = v.extractLsb' 0 8 := rfl
@[simp] theorem queryWrite_arpActive (v : U32) (s : State) : (queryWrite v s).arpActive = s.arpActive := rfl
@[simp] theorem queryWrite_arpLastMs (v : U32) (s : State) : (queryWrite v s).arpLastMs = s.arpLastMs := rfl
@[simp] theorem queryWrite_arpCounter (v : U32) (s : State) : (queryWrite v s).arpCounter = s.arpCounter := rfl
@[simp] theorem queryWrite_voiceEn (v : U32) (s : State) : (queryWrite v s).voiceEn = s.voiceEn := rfl
@[simp] theorem queryWrite_voiceNote (v : U32) (s : State) : (queryWrite v s).voiceNote = s.voiceNote := rfl
@[simp] theorem queryWrite_oscPhase (v : U32) (s : State) : (queryWrite v s).oscPhase = s.oscPhase := rfl
@[simp] theorem queryWrite_envStage (v : U32) (s : State) : (queryWrite v s).envStage = s.envStage := rfl
@[simp] theorem queryWrite_envValue (v : U32) (s : State) : (queryWrite v s).envValue = s.envValue := rfl
@[simp] theorem queryWrite_envArate (v : U32) (s : State) : (queryWrite v s).envArate = s.envArate := rfl
@[simp] theorem queryWrite_envDrate (v : U32) (s : State) : (queryWrite v s).envDrate = s.envDrate := rfl
@[simp] theorem queryWrite_envRrate (v : U32) (s : State) : (queryWrite v s).envRrate = s.envRrate := rfl
@[simp] theorem queryWrite_envSus (v : U32) (s : State) : (queryWrite v s).envSus = s.envSus := rfl
@[simp] theorem queryWrite_filtS (v : U32) (s : State) : (queryWrite v s).filtS = s.filtS := rfl
@[simp] theorem queryWrite_filtFc (v : U32) (s : State) : (queryWrite v s).filtFc = s.filtFc := rfl
@[simp] theorem queryWrite_out (v : U32) (s : State) : (queryWrite v s).out = s.out := rfl
@[simp] theorem queryWrite_faults (v : U32) (s : State) : (queryWrite v s).faults = s.faults := rfl
@[simp] theorem queryWrite_inbox (v : U32) (s : State) : (queryWrite v s).inbox = s.inbox := rfl
@[simp] theorem queryWrite_hostData (v : U32) (s : State) : (queryWrite v s).hostData = s.hostData := rfl
@[simp] theorem queryWrite_hostErr (v : U32) (s : State) : (queryWrite v s).hostErr = s.hostErr := rfl
@[simp] theorem queryWrite_result (v : U32) (s : State) : (queryWrite v s).result = s.result := rfl

/-! ## emit -/

@[simp] theorem emit_cfgActive (x : F32) (s : State) : (emit x s).cfgActive = s.cfgActive := rfl
@[simp] theorem emit_cfgStage (x : F32) (s : State) : (emit x s).cfgStage = s.cfgStage := rfl
@[simp] theorem emit_mboxSlot (x : F32) (s : State) : (emit x s).mboxSlot = s.mboxSlot := rfl
@[simp] theorem emit_mboxPending (x : F32) (s : State) : (emit x s).mboxPending = s.mboxPending := rfl
@[simp] theorem emit_evq (x : F32) (s : State) : (emit x s).evq = s.evq := rfl
@[simp] theorem emit_evqOvf (x : F32) (s : State) : (emit x s).evqOvf = s.evqOvf := rfl
@[simp] theorem emit_trkSlot (x : F32) (s : State) : (emit x s).trkSlot = s.trkSlot := rfl
@[simp] theorem emit_trkLen (x : F32) (s : State) : (emit x s).trkLen = s.trkLen := rfl
@[simp] theorem emit_trkQueryArg (x : F32) (s : State) : (emit x s).trkQueryArg = s.trkQueryArg := rfl
@[simp] theorem emit_arpActive (x : F32) (s : State) : (emit x s).arpActive = s.arpActive := rfl
@[simp] theorem emit_arpLastMs (x : F32) (s : State) : (emit x s).arpLastMs = s.arpLastMs := rfl
@[simp] theorem emit_arpCounter (x : F32) (s : State) : (emit x s).arpCounter = s.arpCounter := rfl
@[simp] theorem emit_voiceEn (x : F32) (s : State) : (emit x s).voiceEn = s.voiceEn := rfl
@[simp] theorem emit_voiceNote (x : F32) (s : State) : (emit x s).voiceNote = s.voiceNote := rfl
@[simp] theorem emit_oscPhase (x : F32) (s : State) : (emit x s).oscPhase = s.oscPhase := rfl
@[simp] theorem emit_envStage (x : F32) (s : State) : (emit x s).envStage = s.envStage := rfl
@[simp] theorem emit_envValue (x : F32) (s : State) : (emit x s).envValue = s.envValue := rfl
@[simp] theorem emit_envArate (x : F32) (s : State) : (emit x s).envArate = s.envArate := rfl
@[simp] theorem emit_envDrate (x : F32) (s : State) : (emit x s).envDrate = s.envDrate := rfl
@[simp] theorem emit_envRrate (x : F32) (s : State) : (emit x s).envRrate = s.envRrate := rfl
@[simp] theorem emit_envSus (x : F32) (s : State) : (emit x s).envSus = s.envSus := rfl
@[simp] theorem emit_filtS (x : F32) (s : State) : (emit x s).filtS = s.filtS := rfl
@[simp] theorem emit_filtFc (x : F32) (s : State) : (emit x s).filtFc = s.filtFc := rfl
@[simp] theorem emit_out (x : F32) (s : State) : (emit x s).out = s.out ++ [x] := rfl
@[simp] theorem emit_faults (x : F32) (s : State) : (emit x s).faults = s.faults := rfl
@[simp] theorem emit_inbox (x : F32) (s : State) : (emit x s).inbox = s.inbox := rfl
@[simp] theorem emit_hostData (x : F32) (s : State) : (emit x s).hostData = s.hostData := rfl
@[simp] theorem emit_hostErr (x : F32) (s : State) : (emit x s).hostErr = s.hostErr := rfl
@[simp] theorem emit_result (x : F32) (s : State) : (emit x s).result = s.result := rfl

/-! ## arpClear -/

@[simp] theorem arpClear_cfgActive (s : State) : (arpClear s).cfgActive = s.cfgActive := rfl
@[simp] theorem arpClear_cfgStage (s : State) : (arpClear s).cfgStage = s.cfgStage := rfl
@[simp] theorem arpClear_mboxSlot (s : State) : (arpClear s).mboxSlot = s.mboxSlot := rfl
@[simp] theorem arpClear_mboxPending (s : State) : (arpClear s).mboxPending = s.mboxPending := rfl
@[simp] theorem arpClear_evq (s : State) : (arpClear s).evq = s.evq := rfl
@[simp] theorem arpClear_evqOvf (s : State) : (arpClear s).evqOvf = s.evqOvf := rfl
@[simp] theorem arpClear_trkSlot (s : State) : (arpClear s).trkSlot = s.trkSlot := rfl
@[simp] theorem arpClear_trkLen (s : State) : (arpClear s).trkLen = s.trkLen := rfl
@[simp] theorem arpClear_trkQueryArg (s : State) : (arpClear s).trkQueryArg = s.trkQueryArg := rfl
@[simp] theorem arpClear_arpActive (s : State) : (arpClear s).arpActive = false := rfl
@[simp] theorem arpClear_arpLastMs (s : State) : (arpClear s).arpLastMs = 0 := rfl
@[simp] theorem arpClear_arpCounter (s : State) : (arpClear s).arpCounter = 0 := rfl
@[simp] theorem arpClear_voiceEn (s : State) : (arpClear s).voiceEn = s.voiceEn := rfl
@[simp] theorem arpClear_voiceNote (s : State) : (arpClear s).voiceNote = s.voiceNote := rfl
@[simp] theorem arpClear_oscPhase (s : State) : (arpClear s).oscPhase = s.oscPhase := rfl
@[simp] theorem arpClear_envStage (s : State) : (arpClear s).envStage = s.envStage := rfl
@[simp] theorem arpClear_envValue (s : State) : (arpClear s).envValue = s.envValue := rfl
@[simp] theorem arpClear_envArate (s : State) : (arpClear s).envArate = s.envArate := rfl
@[simp] theorem arpClear_envDrate (s : State) : (arpClear s).envDrate = s.envDrate := rfl
@[simp] theorem arpClear_envRrate (s : State) : (arpClear s).envRrate = s.envRrate := rfl
@[simp] theorem arpClear_envSus (s : State) : (arpClear s).envSus = s.envSus := rfl
@[simp] theorem arpClear_filtS (s : State) : (arpClear s).filtS = s.filtS := rfl
@[simp] theorem arpClear_filtFc (s : State) : (arpClear s).filtFc = s.filtFc := rfl
@[simp] theorem arpClear_out (s : State) : (arpClear s).out = s.out := rfl
@[simp] theorem arpClear_faults (s : State) : (arpClear s).faults = s.faults := rfl
@[simp] theorem arpClear_inbox (s : State) : (arpClear s).inbox = s.inbox := rfl
@[simp] theorem arpClear_hostData (s : State) : (arpClear s).hostData = s.hostData := rfl
@[simp] theorem arpClear_hostErr (s : State) : (arpClear s).hostErr = s.hostErr := rfl
@[simp] theorem arpClear_result (s : State) : (arpClear s).result = s.result := rfl

/-! ## envSetRates -/

@[simp] theorem envSetRates_cfgActive (e : EnvCfg) (s : State) : (envSetRates e s).cfgActive = s.cfgActive := rfl
@[simp] theorem envSetRates_cfgStage (e : EnvCfg) (s : State) : (envSetRates e s).cfgStage = s.cfgStage := rfl
@[simp] theorem envSetRates_mboxSlot (e : EnvCfg) (s : State) : (envSetRates e s).mboxSlot = s.mboxSlot := rfl
@[simp] theorem envSetRates_mboxPending (e : EnvCfg) (s : State) : (envSetRates e s).mboxPending = s.mboxPending := rfl
@[simp] theorem envSetRates_evq (e : EnvCfg) (s : State) : (envSetRates e s).evq = s.evq := rfl
@[simp] theorem envSetRates_evqOvf (e : EnvCfg) (s : State) : (envSetRates e s).evqOvf = s.evqOvf := rfl
@[simp] theorem envSetRates_trkSlot (e : EnvCfg) (s : State) : (envSetRates e s).trkSlot = s.trkSlot := rfl
@[simp] theorem envSetRates_trkLen (e : EnvCfg) (s : State) : (envSetRates e s).trkLen = s.trkLen := rfl
@[simp] theorem envSetRates_trkQueryArg (e : EnvCfg) (s : State) : (envSetRates e s).trkQueryArg = s.trkQueryArg := rfl
@[simp] theorem envSetRates_arpActive (e : EnvCfg) (s : State) : (envSetRates e s).arpActive = s.arpActive := rfl
@[simp] theorem envSetRates_arpLastMs (e : EnvCfg) (s : State) : (envSetRates e s).arpLastMs = s.arpLastMs := rfl
@[simp] theorem envSetRates_arpCounter (e : EnvCfg) (s : State) : (envSetRates e s).arpCounter = s.arpCounter := rfl
@[simp] theorem envSetRates_voiceEn (e : EnvCfg) (s : State) : (envSetRates e s).voiceEn = s.voiceEn := rfl
@[simp] theorem envSetRates_voiceNote (e : EnvCfg) (s : State) : (envSetRates e s).voiceNote = s.voiceNote := rfl
@[simp] theorem envSetRates_oscPhase (e : EnvCfg) (s : State) : (envSetRates e s).oscPhase = s.oscPhase := rfl
@[simp] theorem envSetRates_envStage (e : EnvCfg) (s : State) : (envSetRates e s).envStage = s.envStage := rfl
@[simp] theorem envSetRates_envValue (e : EnvCfg) (s : State) : (envSetRates e s).envValue = s.envValue := rfl
@[simp] theorem envSetRates_envArate (e : EnvCfg) (s : State) : (envSetRates e s).envArate = envRate e.attack := rfl
@[simp] theorem envSetRates_envDrate (e : EnvCfg) (s : State) : (envSetRates e s).envDrate = envRate e.decay := rfl
@[simp] theorem envSetRates_envRrate (e : EnvCfg) (s : State) : (envSetRates e s).envRrate = envRate e.release := rfl
@[simp] theorem envSetRates_envSus (e : EnvCfg) (s : State) : (envSetRates e s).envSus = e.sustain := rfl
@[simp] theorem envSetRates_filtS (e : EnvCfg) (s : State) : (envSetRates e s).filtS = s.filtS := rfl
@[simp] theorem envSetRates_filtFc (e : EnvCfg) (s : State) : (envSetRates e s).filtFc = s.filtFc := rfl
@[simp] theorem envSetRates_out (e : EnvCfg) (s : State) : (envSetRates e s).out = s.out := rfl
@[simp] theorem envSetRates_faults (e : EnvCfg) (s : State) : (envSetRates e s).faults = s.faults := rfl
@[simp] theorem envSetRates_inbox (e : EnvCfg) (s : State) : (envSetRates e s).inbox = s.inbox := rfl
@[simp] theorem envSetRates_hostData (e : EnvCfg) (s : State) : (envSetRates e s).hostData = s.hostData := rfl
@[simp] theorem envSetRates_hostErr (e : EnvCfg) (s : State) : (envSetRates e s).hostErr = s.hostErr := rfl
@[simp] theorem envSetRates_result (e : EnvCfg) (s : State) : (envSetRates e s).result = s.result := rfl

/-! ## setRatesStep -/

@[simp] theorem setRatesStep_cfgActive (s : State) : (setRatesStep s).cfgActive = s.cfgActive := rfl
@[simp] theorem setRatesStep_cfgStage (s : State) : (setRatesStep s).cfgStage = s.cfgStage := rfl
@[simp] theorem setRatesStep_mboxSlot (s : State) : (setRatesStep s).mboxSlot = s.mboxSlot := rfl
@[simp] theorem setRatesStep_mboxPending (s : State) : (setRatesStep s).mboxPending = s.mboxPending := rfl
@[simp] theorem setRatesStep_evq (s : State) : (setRatesStep s).evq = s.evq := rfl
@[simp] theorem setRatesStep_evqOvf (s : State) : (setRatesStep s).evqOvf = s.evqOvf := rfl
@[simp] theorem setRatesStep_trkSlot (s : State) : (setRatesStep s).trkSlot = s.trkSlot := rfl
@[simp] theorem setRatesStep_trkLen (s : State) : (setRatesStep s).trkLen = s.trkLen := rfl
@[simp] theorem setRatesStep_trkQueryArg (s : State) : (setRatesStep s).trkQueryArg = s.trkQueryArg := rfl
@[simp] theorem setRatesStep_arpActive (s : State) : (setRatesStep s).arpActive = s.arpActive := rfl
@[simp] theorem setRatesStep_arpLastMs (s : State) : (setRatesStep s).arpLastMs = s.arpLastMs := rfl
@[simp] theorem setRatesStep_arpCounter (s : State) : (setRatesStep s).arpCounter = s.arpCounter := rfl
@[simp] theorem setRatesStep_voiceEn (s : State) : (setRatesStep s).voiceEn = s.voiceEn := rfl
@[simp] theorem setRatesStep_voiceNote (s : State) : (setRatesStep s).voiceNote = s.voiceNote := rfl
@[simp] theorem setRatesStep_oscPhase (s : State) : (setRatesStep s).oscPhase = s.oscPhase := rfl
@[simp] theorem setRatesStep_envStage (s : State) : (setRatesStep s).envStage = s.envStage := rfl
@[simp] theorem setRatesStep_envValue (s : State) : (setRatesStep s).envValue = s.envValue := rfl
@[simp] theorem setRatesStep_envArate (s : State) : (setRatesStep s).envArate = envRate s.cfgActive.env.attack := rfl
@[simp] theorem setRatesStep_envDrate (s : State) : (setRatesStep s).envDrate = envRate s.cfgActive.env.decay := rfl
@[simp] theorem setRatesStep_envRrate (s : State) : (setRatesStep s).envRrate = envRate s.cfgActive.env.release := rfl
@[simp] theorem setRatesStep_envSus (s : State) : (setRatesStep s).envSus = s.cfgActive.env.sustain := rfl
@[simp] theorem setRatesStep_filtS (s : State) : (setRatesStep s).filtS = s.filtS := rfl
@[simp] theorem setRatesStep_filtFc (s : State) : (setRatesStep s).filtFc = s.filtFc := rfl
@[simp] theorem setRatesStep_out (s : State) : (setRatesStep s).out = s.out := rfl
@[simp] theorem setRatesStep_faults (s : State) : (setRatesStep s).faults = s.faults := rfl
@[simp] theorem setRatesStep_inbox (s : State) : (setRatesStep s).inbox = s.inbox := rfl
@[simp] theorem setRatesStep_hostData (s : State) : (setRatesStep s).hostData = s.hostData := rfl
@[simp] theorem setRatesStep_hostErr (s : State) : (setRatesStep s).hostErr = s.hostErr := rfl
@[simp] theorem setRatesStep_result (s : State) : (setRatesStep s).result = s.result := rfl

/-! ## envTriggerOn -/

@[simp] theorem envTriggerOn_cfgActive (s : State) : (envTriggerOn s).cfgActive = s.cfgActive := rfl
@[simp] theorem envTriggerOn_cfgStage (s : State) : (envTriggerOn s).cfgStage = s.cfgStage := rfl
@[simp] theorem envTriggerOn_mboxSlot (s : State) : (envTriggerOn s).mboxSlot = s.mboxSlot := rfl
@[simp] theorem envTriggerOn_mboxPending (s : State) : (envTriggerOn s).mboxPending = s.mboxPending := rfl
@[simp] theorem envTriggerOn_evq (s : State) : (envTriggerOn s).evq = s.evq := rfl
@[simp] theorem envTriggerOn_evqOvf (s : State) : (envTriggerOn s).evqOvf = s.evqOvf := rfl
@[simp] theorem envTriggerOn_trkSlot (s : State) : (envTriggerOn s).trkSlot = s.trkSlot := rfl
@[simp] theorem envTriggerOn_trkLen (s : State) : (envTriggerOn s).trkLen = s.trkLen := rfl
@[simp] theorem envTriggerOn_trkQueryArg (s : State) : (envTriggerOn s).trkQueryArg = s.trkQueryArg := rfl
@[simp] theorem envTriggerOn_arpActive (s : State) : (envTriggerOn s).arpActive = s.arpActive := rfl
@[simp] theorem envTriggerOn_arpLastMs (s : State) : (envTriggerOn s).arpLastMs = s.arpLastMs := rfl
@[simp] theorem envTriggerOn_arpCounter (s : State) : (envTriggerOn s).arpCounter = s.arpCounter := rfl
@[simp] theorem envTriggerOn_voiceEn (s : State) : (envTriggerOn s).voiceEn = s.voiceEn := rfl
@[simp] theorem envTriggerOn_voiceNote (s : State) : (envTriggerOn s).voiceNote = s.voiceNote := rfl
@[simp] theorem envTriggerOn_oscPhase (s : State) : (envTriggerOn s).oscPhase = s.oscPhase := rfl
@[simp] theorem envTriggerOn_envStage (s : State) : (envTriggerOn s).envStage = .attack := rfl
@[simp] theorem envTriggerOn_envValue (s : State) : (envTriggerOn s).envValue = s.envValue := rfl
@[simp] theorem envTriggerOn_envArate (s : State) : (envTriggerOn s).envArate = s.envArate := rfl
@[simp] theorem envTriggerOn_envDrate (s : State) : (envTriggerOn s).envDrate = s.envDrate := rfl
@[simp] theorem envTriggerOn_envRrate (s : State) : (envTriggerOn s).envRrate = s.envRrate := rfl
@[simp] theorem envTriggerOn_envSus (s : State) : (envTriggerOn s).envSus = s.envSus := rfl
@[simp] theorem envTriggerOn_filtS (s : State) : (envTriggerOn s).filtS = s.filtS := rfl
@[simp] theorem envTriggerOn_filtFc (s : State) : (envTriggerOn s).filtFc = s.filtFc := rfl
@[simp] theorem envTriggerOn_out (s : State) : (envTriggerOn s).out = s.out := rfl
@[simp] theorem envTriggerOn_faults (s : State) : (envTriggerOn s).faults = s.faults := rfl
@[simp] theorem envTriggerOn_inbox (s : State) : (envTriggerOn s).inbox = s.inbox := rfl
@[simp] theorem envTriggerOn_hostData (s : State) : (envTriggerOn s).hostData = s.hostData := rfl
@[simp] theorem envTriggerOn_hostErr (s : State) : (envTriggerOn s).hostErr = s.hostErr := rfl
@[simp] theorem envTriggerOn_result (s : State) : (envTriggerOn s).result = s.result := rfl

/-! ## envTriggerOff -/

@[simp] theorem envTriggerOff_cfgActive (s : State) : (envTriggerOff s).cfgActive = s.cfgActive := rfl
@[simp] theorem envTriggerOff_cfgStage (s : State) : (envTriggerOff s).cfgStage = s.cfgStage := rfl
@[simp] theorem envTriggerOff_mboxSlot (s : State) : (envTriggerOff s).mboxSlot = s.mboxSlot := rfl
@[simp] theorem envTriggerOff_mboxPending (s : State) : (envTriggerOff s).mboxPending = s.mboxPending := rfl
@[simp] theorem envTriggerOff_evq (s : State) : (envTriggerOff s).evq = s.evq := rfl
@[simp] theorem envTriggerOff_evqOvf (s : State) : (envTriggerOff s).evqOvf = s.evqOvf := rfl
@[simp] theorem envTriggerOff_trkSlot (s : State) : (envTriggerOff s).trkSlot = s.trkSlot := rfl
@[simp] theorem envTriggerOff_trkLen (s : State) : (envTriggerOff s).trkLen = s.trkLen := rfl
@[simp] theorem envTriggerOff_trkQueryArg (s : State) : (envTriggerOff s).trkQueryArg = s.trkQueryArg := rfl
@[simp] theorem envTriggerOff_arpActive (s : State) : (envTriggerOff s).arpActive = s.arpActive := rfl
@[simp] theorem envTriggerOff_arpLastMs (s : State) : (envTriggerOff s).arpLastMs = s.arpLastMs := rfl
@[simp] theorem envTriggerOff_arpCounter (s : State) : (envTriggerOff s).arpCounter = s.arpCounter := rfl
@[simp] theorem envTriggerOff_voiceEn (s : State) : (envTriggerOff s).voiceEn = s.voiceEn := rfl
@[simp] theorem envTriggerOff_voiceNote (s : State) : (envTriggerOff s).voiceNote = s.voiceNote := rfl
@[simp] theorem envTriggerOff_oscPhase (s : State) : (envTriggerOff s).oscPhase = s.oscPhase := rfl
@[simp] theorem envTriggerOff_envStage (s : State) : (envTriggerOff s).envStage = .release := rfl
@[simp] theorem envTriggerOff_envValue (s : State) : (envTriggerOff s).envValue = s.envValue := rfl
@[simp] theorem envTriggerOff_envArate (s : State) : (envTriggerOff s).envArate = s.envArate := rfl
@[simp] theorem envTriggerOff_envDrate (s : State) : (envTriggerOff s).envDrate = s.envDrate := rfl
@[simp] theorem envTriggerOff_envRrate (s : State) : (envTriggerOff s).envRrate = s.envRrate := rfl
@[simp] theorem envTriggerOff_envSus (s : State) : (envTriggerOff s).envSus = s.envSus := rfl
@[simp] theorem envTriggerOff_filtS (s : State) : (envTriggerOff s).filtS = s.filtS := rfl
@[simp] theorem envTriggerOff_filtFc (s : State) : (envTriggerOff s).filtFc = s.filtFc := rfl
@[simp] theorem envTriggerOff_out (s : State) : (envTriggerOff s).out = s.out := rfl
@[simp] theorem envTriggerOff_faults (s : State) : (envTriggerOff s).faults = s.faults := rfl
@[simp] theorem envTriggerOff_inbox (s : State) : (envTriggerOff s).inbox = s.inbox := rfl
@[simp] theorem envTriggerOff_hostData (s : State) : (envTriggerOff s).hostData = s.hostData := rfl
@[simp] theorem envTriggerOff_hostErr (s : State) : (envTriggerOff s).hostErr = s.hostErr := rfl
@[simp] theorem envTriggerOff_result (s : State) : (envTriggerOff s).result = s.result := rfl

/-! ## filtSmooth -/

@[simp] theorem filtSmooth_cfgActive (t : F32) (s : State) : (filtSmooth t s).cfgActive = s.cfgActive := rfl
@[simp] theorem filtSmooth_cfgStage (t : F32) (s : State) : (filtSmooth t s).cfgStage = s.cfgStage := rfl
@[simp] theorem filtSmooth_mboxSlot (t : F32) (s : State) : (filtSmooth t s).mboxSlot = s.mboxSlot := rfl
@[simp] theorem filtSmooth_mboxPending (t : F32) (s : State) : (filtSmooth t s).mboxPending = s.mboxPending := rfl
@[simp] theorem filtSmooth_evq (t : F32) (s : State) : (filtSmooth t s).evq = s.evq := rfl
@[simp] theorem filtSmooth_evqOvf (t : F32) (s : State) : (filtSmooth t s).evqOvf = s.evqOvf := rfl
@[simp] theorem filtSmooth_trkSlot (t : F32) (s : State) : (filtSmooth t s).trkSlot = s.trkSlot := rfl
@[simp] theorem filtSmooth_trkLen (t : F32) (s : State) : (filtSmooth t s).trkLen = s.trkLen := rfl
@[simp] theorem filtSmooth_trkQueryArg (t : F32) (s : State) : (filtSmooth t s).trkQueryArg = s.trkQueryArg := rfl
@[simp] theorem filtSmooth_arpActive (t : F32) (s : State) : (filtSmooth t s).arpActive = s.arpActive := rfl
@[simp] theorem filtSmooth_arpLastMs (t : F32) (s : State) : (filtSmooth t s).arpLastMs = s.arpLastMs := rfl
@[simp] theorem filtSmooth_arpCounter (t : F32) (s : State) : (filtSmooth t s).arpCounter = s.arpCounter := rfl
@[simp] theorem filtSmooth_voiceEn (t : F32) (s : State) : (filtSmooth t s).voiceEn = s.voiceEn := rfl
@[simp] theorem filtSmooth_voiceNote (t : F32) (s : State) : (filtSmooth t s).voiceNote = s.voiceNote := rfl
@[simp] theorem filtSmooth_oscPhase (t : F32) (s : State) : (filtSmooth t s).oscPhase = s.oscPhase := rfl
@[simp] theorem filtSmooth_envStage (t : F32) (s : State) : (filtSmooth t s).envStage = s.envStage := rfl
@[simp] theorem filtSmooth_envValue (t : F32) (s : State) : (filtSmooth t s).envValue = s.envValue := rfl
@[simp] theorem filtSmooth_envArate (t : F32) (s : State) : (filtSmooth t s).envArate = s.envArate := rfl
@[simp] theorem filtSmooth_envDrate (t : F32) (s : State) : (filtSmooth t s).envDrate = s.envDrate := rfl
@[simp] theorem filtSmooth_envRrate (t : F32) (s : State) : (filtSmooth t s).envRrate = s.envRrate := rfl
@[simp] theorem filtSmooth_envSus (t : F32) (s : State) : (filtSmooth t s).envSus = s.envSus := rfl
@[simp] theorem filtSmooth_filtS (t : F32) (s : State) : (filtSmooth t s).filtS = s.filtS := rfl
@[simp] theorem filtSmooth_filtFc (t : F32) (s : State) : (filtSmooth t s).filtFc = smoothed s.filtFc t := rfl
@[simp] theorem filtSmooth_out (t : F32) (s : State) : (filtSmooth t s).out = s.out := rfl
@[simp] theorem filtSmooth_faults (t : F32) (s : State) : (filtSmooth t s).faults = s.faults := rfl
@[simp] theorem filtSmooth_inbox (t : F32) (s : State) : (filtSmooth t s).inbox = s.inbox := rfl
@[simp] theorem filtSmooth_hostData (t : F32) (s : State) : (filtSmooth t s).hostData = s.hostData := rfl
@[simp] theorem filtSmooth_hostErr (t : F32) (s : State) : (filtSmooth t s).hostErr = s.hostErr := rfl
@[simp] theorem filtSmooth_result (t : F32) (s : State) : (filtSmooth t s).result = s.result := rfl

end Sys2Proof.Machine
end

