-- ==== Sys2Proof/Laws/Tracker.lean ====
section
/-! SUPPORT. What the tracker operations can do: the cases of push and pop, the held notes after them, and the tracker
invariants kept. -/

namespace Sys2Proof.Machine

-- One theorem at a time: many at once ask for more threads than the memory limit of the check leaves room for.
set_option Elab.async false

/-! ## Held notes -/

/-- The held notes of a state depend on its slots and its length alone. -/
theorem heldNotes_congr {s t : State} (h1 : t.trkSlot = s.trkSlot) (h2 : t.trkLen = s.trkLen) :
    heldNotes t = heldNotes s := by rw [heldNotes, heldNotes, h1, h2]

theorem slots_toList (v : Vector U8 5) : v.toList = [v[0], v[1], v[2], v[3], v[4]] := by
  apply List.ext_getElem
  · simp
  · intro i h1 h2
    have hi : i < 5 := by simpa using h2
    interval_cases i <;> rfl

theorem heldNotes_length (s : State) : (heldNotes s).length = s.trkLen.val := by
  have := s.trkLen.isLt
  simp [heldNotes]
  omega

theorem heldNotes_getElem (s : State) (i : Nat) (h : i < (heldNotes s).length) :
    (heldNotes s)[i] = s.trkSlot.toList[i]'(by rw [heldNotes_length] at h; have := s.trkLen.isLt; simp; omega) := by
  simp [heldNotes]

theorem heldNotes_eq_nil (s : State) : heldNotes s = [] ↔ s.trkLen = 0 := by
  rw [← List.length_eq_zero_iff, heldNotes_length]
  exact ⟨fun h => Fin.ext h, fun h => by rw [h]; rfl⟩

/-- The tracker invariants depend on the slots and the length alone. -/
theorem trackerOk_congr {s t : State} (h1 : t.trkSlot = s.trkSlot) (h2 : t.trkLen = s.trkLen) (h : trackerOk s) :
    trackerOk t := by
  obtain ⟨a, b, c⟩ := h
  refine ⟨?_, ?_, ?_⟩
  · rwa [heldNotes_congr h1 h2]
  · rwa [heldNotes_congr h1 h2]
  · rwa [h1, h2]

/-- Under the invariants a slot is the held note of its index, or 255. -/
theorem slot_eq (s : State) (h : trackerOk s) (i : Nat) (hi : i < 5) :
    s.trkSlot.toList[i]'(by simpa using hi) = (heldNotes s)[i]?.getD 255 := by
  by_cases hl : i < s.trkLen.val
  · rw [List.getElem?_eq_getElem (by rw [heldNotes_length]; exact hl), heldNotes_getElem]; rfl
  · rw [List.getElem?_eq_none (by rw [heldNotes_length]; omega)]
    refine h.2.2 _ (List.mem_iff_getElem.2 ⟨i - s.trkLen.val, by simp; omega, ?_⟩)
    simp [List.getElem_drop, Nat.add_sub_cancel' (not_lt.1 hl)]

/-! ## Push -/

theorem trkPush_same {n : U8} {s : State} (h : n = 255 ∨ n ∈ heldNotes s) : trkPush n s = s := by
  rcases h with h | h
  · simp [trkPush, h]
  · unfold trkPush; rw [if_pos h]; exact ite_self _

theorem trkPush_new {n : U8} {s : State} (h : n ≠ 255) (h1 : n ∉ heldNotes s) : trkPush n s = { s with
    trkSlot := #v[n, s.trkSlot[0], s.trkSlot[1], s.trkSlot[2], s.trkSlot[3]], trkLen := lenAfterPush s.trkLen } := by
  unfold trkPush; rw [if_neg h, if_neg h1]

theorem trkPush_frame (n : U8) (s : State) :
    trkPush n s = { s with trkSlot := (trkPush n s).trkSlot, trkLen := (trkPush n s).trkLen } := by
  by_cases h : n = 255 ∨ n ∈ heldNotes s
  · rw [trkPush_same h]
  · rw [not_or] at h; rw [trkPush_new h.1 h.2]

theorem trkPush_held {n : U8} {s : State} (h : n ≠ 255) (h1 : n ∉ heldNotes s) :
    heldNotes (trkPush n s) = (n :: heldNotes s).take 5 := by
  rw [trkPush_new h h1]
  simp only [heldNotes, slots_toList, lenAfterPush]
  generalize s.trkSlot[0] = a
  generalize s.trkSlot[1] = b
  generalize s.trkSlot[2] = c
  generalize s.trkSlot[3] = d
  generalize s.trkSlot[4] = e
  generalize s.trkLen = k
  fin_cases k <;> rfl

theorem trkPush_trackerOk (n : U8) {s : State} (h : trackerOk s) : trackerOk (trkPush n s) := by
  by_cases hn : n = 255 ∨ n ∈ heldNotes s
  · rwa [trkPush_same hn]
  · rw [not_or] at hn
    refine ⟨?_, ?_, ?_⟩
    · rw [trkPush_held hn.1 hn.2]
      exact (List.nodup_cons.2 ⟨hn.2, h.1⟩).sublist (List.take_sublist _ _)
    · rw [trkPush_held hn.1 hn.2]
      intro hm
      rcases List.mem_cons.1 (List.mem_of_mem_take hm) with h1 | h1
      · exact hn.1 h1.symm
      · exact h.2.1 h1
    · rw [trkPush_new hn.1 hn.2]
      have hd := h.2.2
      revert hd
      simp only [slots_toList, lenAfterPush]
      generalize s.trkSlot[0] = a
      generalize s.trkSlot[1] = b
      generalize s.trkSlot[2] = c
      generalize s.trkSlot[3] = d
      generalize s.trkSlot[4] = e
      generalize s.trkLen = k
      fin_cases k <;> simp <;> tauto

/-- A pushed note is among the held ones, and no other note comes in. -/
theorem mem_trkPush {n m : U8} {s : State} (h : m ∈ heldNotes (trkPush n s)) : m = n ∨ m ∈ heldNotes s := by
  by_cases hn : n = 255 ∨ n ∈ heldNotes s
  · rw [trkPush_same hn] at h; exact .inr h
  · rw [not_or] at hn
    rw [trkPush_held hn.1 hn.2] at h
    exact List.mem_cons.1 (List.mem_of_mem_take h)

/-! ## Pop -/

theorem trkPop_same {n : U8} {s : State} (h : n = 255 ∨ n ∉ heldNotes s) : trkPop n s = s := by
  unfold trkPop
  rcases h with h | h
  · rw [if_pos h]
  · rw [if_neg h]; exact ite_self _

theorem trkPop_held_eq {n : U8} {s : State} (h : n ≠ 255) (h1 : n ∈ heldNotes s) : trkPop n s = { s with
    trkSlot := removeSlot ((heldNotes s).idxOf n) s.trkSlot, trkLen := lenAfterPop s.trkLen } := by
  unfold trkPop; rw [if_neg h, if_pos h1]

theorem trkPop_frame (n : U8) (s : State) :
    trkPop n s = { s with trkSlot := (trkPop n s).trkSlot, trkLen := (trkPop n s).trkLen } := by
  by_cases h : n = 255 ∨ n ∉ heldNotes s
  · rw [trkPop_same h]
  · rw [not_or, not_not] at h; rw [trkPop_held_eq h.1 h.2]

/-- Taking index `j` out of the slots takes it out of the first `k` of them. -/
theorem removeSlot_take (j : Nat) (v : Vector U8 5) (k : Fin 6) (h : j < k.val) :
    (removeSlot j v).toList.take (lenAfterPop k).val = (v.toList.take k.val).eraseIdx j := by
  rw [slots_toList v, removeSlot]
  generalize v[0] = a
  generalize v[1] = b
  generalize v[2] = c
  generalize v[3] = d
  generalize v[4] = e
  fin_cases k <;> simp only [lenAfterPop] at h ⊢ <;> (try omega) <;> interval_cases j <;> rfl

/-- If the slots from the length on are 255, they are so after an index below the length is taken out. -/
theorem removeSlot_drop (j : Nat) (v : Vector U8 5) (k : Fin 6) (h : j < k.val)
    (hd : ∀ n ∈ v.toList.drop k.val, n = 255) : ∀ n ∈ (removeSlot j v).toList.drop (lenAfterPop k).val, n = 255 := by
  rw [slots_toList] at hd
  rw [removeSlot]
  generalize v[0] = a at *
  generalize v[1] = b at *
  generalize v[2] = c at *
  generalize v[3] = d at *
  generalize v[4] = e at *
  fin_cases k <;> simp only [lenAfterPop] at h ⊢ <;> (try omega) <;> interval_cases j <;> simp at hd ⊢ <;> tauto

theorem trkPop_held {n : U8} {s : State} (h : n ≠ 255) : heldNotes (trkPop n s) = (heldNotes s).erase n := by
  by_cases h1 : n ∈ heldNotes s
  · rw [trkPop_held_eq h h1, List.erase_eq_eraseIdx_of_idxOf rfl]
    exact removeSlot_take _ _ _ (by rw [← heldNotes_length]; exact List.idxOf_lt_length_of_mem h1)
  · rw [trkPop_same (.inr h1), List.erase_of_not_mem h1]

theorem trkPop_trackerOk (n : U8) {s : State} (h : trackerOk s) : trackerOk (trkPop n s) := by
  by_cases hn : n = 255 ∨ n ∉ heldNotes s
  · rwa [trkPop_same hn]
  · rw [not_or, not_not] at hn
    refine ⟨?_, ?_, ?_⟩
    · rw [trkPop_held hn.1]; exact h.1.erase n
    · rw [trkPop_held hn.1]; exact fun hm => h.2.1 (List.mem_of_mem_erase hm)
    · have hj : (heldNotes s).idxOf n < s.trkLen.val := by
        rw [← heldNotes_length]; exact List.idxOf_lt_length_of_mem hn.2
      rw [trkPop_held_eq hn.1 hn.2]
      exact removeSlot_drop _ _ _ hj h.2.2

/-- A pop brings no note in. -/
theorem mem_trkPop {n m : U8} {s : State} (h : m ∈ heldNotes (trkPop n s)) : m ∈ heldNotes s := by
  by_cases hn : n = 255
  · rwa [trkPop_same (.inl hn)] at h
  · rw [trkPop_held hn] at h; exact List.mem_of_mem_erase h

/-! ## Queries -/

/-- The fold of TRK_SMALLEST: no larger than its start and every note, and one of them. -/
theorem foldl_min (l : List U8) (r : U8) :
    l.foldl (fun r n => if n < r then n else r) r ≤ r ∧ (∀ n ∈ l, l.foldl (fun r n => if n < r then n else r) r ≤ n) ∧
      (l.foldl (fun r n => if n < r then n else r) r = r ∨ l.foldl (fun r n => if n < r then n else r) r ∈ l) := by
  induction l generalizing r with
  | nil => simp
  | cons a l ih =>
    simp only [List.foldl_cons, List.mem_cons, forall_eq_or_imp]
    obtain ⟨h1, h2, h3⟩ := ih (if a < r then a else r)
    by_cases h : a < r
    · rw [if_pos h] at h1 h2 h3 ⊢
      exact ⟨BitVec.le_trans h1 (BitVec.le_of_lt h), ⟨h1, h2⟩, .inr (h3.imp_left id)⟩
    · rw [if_neg h] at h1 h2 h3 ⊢
      exact ⟨h1, ⟨BitVec.le_trans h1 (BitVec.not_lt.1 h), h2⟩, h3.imp_right .inr⟩

/-- TRK_SMALLEST of a tracker that holds notes, none 255: a held note no held note is below. -/
theorem trkSmallest_spec (s : State) (h : (255 : U8) ∉ heldNotes s) (hne : heldNotes s ≠ []) :
    trkSmallest s ∈ heldNotes s ∧ ∀ n ∈ heldNotes s, trkSmallest s ≤ n := by
  obtain ⟨_, h2, h3⟩ := foldl_min (heldNotes s) 255
  refine ⟨?_, h2⟩
  rcases h3 with h3 | h3
  · obtain ⟨n, hn⟩ := List.exists_mem_of_ne_nil _ hne
    have hle := h2 n hn
    rw [h3] at hle
    have hn255 : n = 255 := by
      apply BitVec.eq_of_toNat_eq
      have := BitVec.le_def.1 hle
      have := n.isLt
      simp at *
      omega
    exact absurd (hn255 ▸ hn) h
  · exact h3

theorem trkSmallest_empty (s : State) (h : heldNotes s = []) : trkSmallest s = 255 := by simp [trkSmallest, h]

/-- The fold of TRK_RIGHT_OF is TRK_SMALLEST's over the notes above `x`. -/
theorem foldl_above (x : U8) (l : List U8) (r : U8) :
    l.foldl (fun c n => if x < n ∧ n < c then n else c) r =
      (l.filter (fun n => decide (x < n))).foldl (fun r n => if n < r then n else r) r := by
  induction l generalizing r with
  | nil => rfl
  | cons a l ih =>
    by_cases h : x < a <;> simp [h, ih]

/-- TRK_RIGHT_OF of a tracker that holds two notes or more: the least note above `x`, or the least of all. -/
theorem trkRightOf_many (x : U8) (s : State) (h : 2 ≤ (heldNotes s).length) :
    trkRightOf x s = if x = 255 then trkSmallest s
      else if trkNextAbove x s = 255 then trkSmallest s else trkNextAbove x s := by
  rw [heldNotes_length] at h
  unfold trkRightOf
  rw [if_neg (by intro h0; rw [h0] at h; simp at h), if_neg (by intro h0; rw [h0] at h; simp at h)]

/-- A note above `x` is held: the loop of TRK_RIGHT_OF finds the least one. -/
theorem trkNextAbove_spec (x : U8) (s : State) (h : (255 : U8) ∉ heldNotes s) (he : ∃ n ∈ heldNotes s, x < n) :
    trkNextAbove x s ∈ heldNotes s ∧ x < trkNextAbove x s ∧ ∀ n ∈ heldNotes s, x < n → trkNextAbove x s ≤ n := by
  obtain ⟨m, hm, hxm⟩ := he
  have hf : m ∈ (heldNotes s).filter (fun n => decide (x < n)) := by simp [hm, hxm]
  obtain ⟨_, h2, h3⟩ := foldl_min ((heldNotes s).filter (fun n => decide (x < n))) 255
  rw [← foldl_above] at h2 h3
  change (∀ n ∈ _, trkNextAbove x s ≤ n) at h2
  change trkNextAbove x s = 255 ∨ trkNextAbove x s ∈ _ at h3
  have hmem : trkNextAbove x s ∈ (heldNotes s).filter (fun n => decide (x < n)) := by
    rcases h3 with h3 | h3
    · have hle := h2 m hf
      rw [h3] at hle
      have : m = 255 := by
        apply BitVec.eq_of_toNat_eq
        have := BitVec.le_def.1 hle
        have := m.isLt
        simp at *
        omega
      exact absurd (this ▸ hm) h
    · exact h3
  rw [List.mem_filter] at hmem
  exact ⟨hmem.1, by simpa using hmem.2, fun n hn hxn => h2 n (by simp [hn, hxn])⟩

/-- No note above `x` is held: the loop of TRK_RIGHT_OF finds none. -/
theorem trkNextAbove_none (x : U8) (s : State) (h : ∀ n ∈ heldNotes s, n ≤ x) : trkNextAbove x s = 255 := by
  have : (heldNotes s).filter (fun n => decide (x < n)) = [] := by
    rw [List.filter_eq_nil_iff]
    intro n hn
    simpa using h n hn
  rw [trkNextAbove, foldl_above, this]
  rfl

/-! ## Events and the drain -/

theorem applyEvent_frame (w : U32) (s : State) :
    applyEvent w s = { s with trkSlot := (applyEvent w s).trkSlot, trkLen := (applyEvent w s).trkLen } := by
  unfold applyEvent
  split
  · exact trkPush_frame _ _
  · exact trkPop_frame _ _
  · rfl

theorem applyEvent_trackerOk (w : U32) {s : State} (h : trackerOk s) : trackerOk (applyEvent w s) := by
  unfold applyEvent
  split
  · exact trkPush_trackerOk _ h
  · exact trkPop_trackerOk _ h
  · exact h

theorem pitchNote_toNat (p : BitVec 7) : (pitchNote p).toNat < 128 := by
  have := p.isLt
  simp [pitchNote]
  omega

theorem pitchNote_ne (p : BitVec 7) : pitchNote p ≠ 255 := by
  intro h
  have := pitchNote_toNat p
  rw [h] at this
  simp at this

theorem applyEvent_pitches (w : U32) {s : State} (h : notesArePitches s) : notesArePitches (applyEvent w s) := by
  unfold applyEvent
  split
  · intro n hn
    rcases mem_trkPush hn with rfl | hn
    · exact pitchNote_toNat _
    · exact h n hn
  · exact fun n hn => h n (mem_trkPop hn)
  · exact h

/-- What an event does to the tracker does not depend on the queue. -/
theorem applyEvent_queue (w : U32) (q : List U32) (s : State) :
    applyEvent w { s with evq := q } = { applyEvent w s with evq := q } := by
  unfold applyEvent
  split
  · by_cases h : pitchNote (evtPitch w) = 255 ∨ pitchNote (evtPitch w) ∈ heldNotes s
    · rw [trkPush_same h, trkPush_same (by exact h)]
    · rw [not_or] at h; rw [trkPush_new h.1 h.2, trkPush_new h.1 (by exact h.2)]
  · by_cases h : pitchNote (evtPitch w) = 255 ∨ pitchNote (evtPitch w) ∉ heldNotes s
    · rw [trkPop_same h, trkPop_same (by exact h)]
    · rw [not_or, not_not] at h; rw [trkPop_held_eq h.1 h.2, trkPop_held_eq h.1 (by exact h.2)]; rfl
  · rfl

end Sys2Proof.Machine
end

