-- ==== Sys2Proof/Laws/Control.lean ====
section
/-! SUPPORT. What the control half of a tick can do: the arpeggiator, the drain, adoption, note selection, and the frame of
each. -/

namespace Sys2Proof.Machine

-- One theorem at a time: many at once ask for more threads than the memory limit of the check leaves room for.
set_option Elab.async false

/-! ## Port writes -/

theorem evtPush_room {w : U32} {s : State} (h : s.evq.length < 32) : evtPush w s = { s with evq := s.evq ++ [w] } :=
  if_pos h

theorem evtPush_full {w : U32} {s : State} (h : 32 ≤ s.evq.length) : evtPush w s = { s with evqOvf := true } :=
  if_neg (not_lt.2 h)

theorem evtPush_frame (w : U32) (s : State) :
    evtPush w s = { s with evq := (evtPush w s).evq, evqOvf := (evtPush w s).evqOvf } := by
  rcases Nat.lt_or_ge s.evq.length 32 with h | h
  · rw [evtPush_room h]
  · rw [evtPush_full h]

theorem evtPush_queueOk (w : U32) {s : State} (h : queueOk s) : queueOk (evtPush w s) := by
  rcases Nat.lt_or_ge s.evq.length 32 with h1 | h1
  · rw [evtPush_room h1]
    show (s.evq ++ [w]).length ≤ 32
    simpa using h1
  · rw [evtPush_full h1]; exact h

theorem evtStatusWrite_set {v : U32} {s : State} (h : v.getLsbD 16 = true) :
    evtStatusWrite v s = { s with evqOvf := false } := if_pos h

theorem evtStatusWrite_clear {v : U32} {s : State} (h : v.getLsbD 16 = false) : evtStatusWrite v s = s :=
  if_neg (by rw [h]; decide)

theorem evtStatusWrite_frame (v : U32) (s : State) :
    evtStatusWrite v s = { s with evqOvf := (evtStatusWrite v s).evqOvf } := by
  cases h : v.getLsbD 16
  · rw [evtStatusWrite_clear h]
  · rw [evtStatusWrite_set h]

/-- A staging write keeps every reserved bit zero. -/
theorem stageWrite_stageOk (k : Fin 22) (v : U32) {s : State} (h : stageOk s) : stageOk (stageWrite k v s) := by
  intro j
  by_cases hj : (k : Nat) = j
  · have : k = j := Fin.ext hj
    subst this
    show (s.cfgStage.set k.val (v &&& cfgMask k))[k.val] &&& cfgMask k = (s.cfgStage.set k.val (v &&& cfgMask k))[k.val]
    rw [Vector.getElem_set_self, BitVec.and_assoc, BitVec.and_self]
  · show (s.cfgStage.set k.val (v &&& cfgMask k))[j.val] &&& cfgMask j = (s.cfgStage.set k.val (v &&& cfgMask k))[j.val]
    rw [Vector.getElem_set_ne _ _ hj]
    exact h j

/-! ## Arpeggiator -/

theorem arpStep_inactive {a : ArpCfg} {now : U32} {s : State} (h : s.arpActive = false) :
    arpStep a now s = (true, { s with arpActive := true, arpLastMs := now, arpCounter := 0 }) := by
  unfold arpStep; rw [if_pos h]

theorem arpStep_due {a : ArpCfg} {now : U32} {s : State} (h : s.arpActive = true) (hd : arpDue a now s = true) :
    arpStep a now s = (true, { s with arpCounter := s.arpCounter + 1, arpLastMs := now }) := by
  unfold arpStep; rw [if_neg (by rw [h]; decide), if_pos hd]

theorem arpStep_wait {a : ArpCfg} {now : U32} {s : State} (h : s.arpActive = true) (hd : arpDue a now s = false) :
    arpStep a now s = (false, s) := by
  unfold arpStep; rw [if_neg (by rw [h]; decide), if_neg (by rw [hd]; decide)]

theorem arpStep_frame (a : ArpCfg) (now : U32) (s : State) : (arpStep a now s).2 = { s with
    arpActive := true, arpLastMs := (arpStep a now s).2.arpLastMs, arpCounter := (arpStep a now s).2.arpCounter } := by
  cases h : s.arpActive
  · rw [arpStep_inactive h]
  · cases hd : arpDue a now s
    · rw [arpStep_wait h hd, ← h]
    · rw [arpStep_due h hd, ← h]

theorem arpPeriod_never {a : ArpCfg} (h : a.bpm.toNat * a.div.toNat = 0) : arpPeriod a = .never := if_pos h

theorem arpPeriod_ms {a : ArpCfg} (h : a.bpm.toNat * a.div.toNat ≠ 0) :
    arpPeriod a = .ms (60000 / (a.bpm.toNat * a.div.toNat)) := if_neg h

theorem arpDue_never {a : ArpCfg} {now : U32} {s : State} (h : arpPeriod a = .never) : arpDue a now s = false := by
  unfold arpDue; rw [h]

theorem arpDue_ms {a : ArpCfg} {now : U32} {s : State} {p : Nat} (h : arpPeriod a = .ms p) :
    arpDue a now s = decide (p ≤ (now - s.arpLastMs).toNat) := by
  unfold arpDue; rw [h]

theorem arpIndex_held {s : State} (h : s.trkLen ≠ 0) : arpIndex s = s.arpCounter.toNat % s.trkLen.val := if_neg h

/-! ## Adoption -/

theorem adopt_none {s : State} (h : s.mboxPending = false) : adopt s = s := by
  unfold adopt; rw [if_neg (by rw [h]; decide)]

theorem adopt_legal {s : State} (h : s.mboxPending = true) (hl : legal s.mboxSlot = true) :
    adopt s = { s with mboxPending := false, cfgActive := s.mboxSlot } := by
  unfold adopt; rw [if_pos h, if_pos hl]

theorem adopt_illegal {s : State} (h : s.mboxPending = true) (hl : legal s.mboxSlot = false) :
    adopt s = { s with mboxPending := false, faults := s.faults ++ [.illegalConfig s.mboxSlot] } := by
  unfold adopt; rw [if_pos h, if_neg (by rw [hl]; decide)]; rfl

theorem adopt_frame (s : State) :
    adopt s = { s with mboxPending := false, cfgActive := (adopt s).cfgActive, faults := (adopt s).faults } := by
  cases h : s.mboxPending
  · rw [adopt_none h, ← h]
  · cases hl : legal s.mboxSlot
    · rw [adopt_illegal h hl]
    · rw [adopt_legal h hl]

theorem adopt_faults (s : State) : ∃ rs : List FaultRecord, (adopt s).faults = s.faults ++ rs ∧ rs.length ≤ 1 := by
  cases h : s.mboxPending
  · rw [adopt_none h]; exact ⟨[], by simp, by simp⟩
  · cases hl : legal s.mboxSlot
    · rw [adopt_illegal h hl]; exact ⟨_, rfl, by simp⟩
    · rw [adopt_legal h hl]; exact ⟨[], by simp, by simp⟩

theorem adopt_configOk {s : State} (h : configOk s) : configOk (adopt s) := by
  cases hp : s.mboxPending
  · rwa [adopt_none hp]
  · cases hl : legal s.mboxSlot
    · rw [adopt_illegal hp hl]; exact h
    · rw [adopt_legal hp hl]; exact hl

theorem adopt_queue (q : List U32) (s : State) : adopt { s with evq := q } = { adopt s with evq := q } := by
  unfold adopt
  dsimp only
  split
  · split <;> rfl
  · rfl

/-! ## Drain -/

theorem drainWords_cases (ws : List U32) (s : State) :
    ∃ q slots len, drainWords ws s = { s with evq := q, trkSlot := slots, trkLen := len } := by
  induction ws generalizing s with
  | nil => exact ⟨_, _, _, rfl⟩
  | cons w ws ih =>
    obtain ⟨q, a, b, h⟩ := ih (applyEvent w { s with evq := ws })
    refine ⟨q, a, b, ?_⟩
    rw [drainWords, h, applyEvent_frame]

theorem drainWords_evq (ws : List U32) (s : State) (h : s.evq = ws) : (drainWords ws s).evq = [] := by
  induction ws generalizing s with
  | nil => exact h
  | cons w ws ih =>
    rw [drainWords]
    apply ih
    rw [applyEvent_frame]

theorem drain_frame (s : State) :
    drain s = { s with evq := [], trkSlot := (drain s).trkSlot, trkLen := (drain s).trkLen } := by
  have hq : (drain s).evq = [] := drainWords_evq _ _ rfl
  obtain ⟨q, a, b, h⟩ := drainWords_cases s.evq s
  rw [drain] at hq ⊢
  rw [h] at hq ⊢
  dsimp only at hq ⊢
  rw [hq]

theorem drainWords_trackerOk (ws : List U32) {s : State} (h : trackerOk s) : trackerOk (drainWords ws s) := by
  induction ws generalizing s with
  | nil => exact h
  | cons w ws ih => exact ih (applyEvent_trackerOk w (trackerOk_congr rfl rfl h))

theorem drainWords_pitches (ws : List U32) {s : State} (h : notesArePitches s) : notesArePitches (drainWords ws s) := by
  induction ws generalizing s with
  | nil => exact h
  | cons w ws ih => exact ih (applyEvent_pitches w (s := { s with evq := ws }) h)

/-! ## Note selection -/

theorem emptyVoice_on {s : State} (h : s.voiceEn = true) : emptyVoice s =
    { s with voiceEn := false, envStage := .release, arpActive := false, arpCounter := 0, arpLastMs := 0 } := by
  unfold emptyVoice; rw [if_pos h]; rfl

theorem emptyVoice_off {s : State} (h : s.voiceEn = false) :
    emptyVoice s = { s with arpActive := false, arpCounter := 0, arpLastMs := 0 } := by
  unfold emptyVoice; rw [if_neg (by rw [h]; decide)]; rfl

theorem emptyVoice_frame (s : State) : emptyVoice s = { s with
    voiceEn := false, envStage := (emptyVoice s).envStage, arpActive := false, arpCounter := 0, arpLastMs := 0 } := by
  cases h : s.voiceEn
  · rw [emptyVoice_off h, ← h]
  · rw [emptyVoice_on h]

theorem selectNote_plain {now : U32} {s : State} (h : s.cfgActive.arp.en = false) :
    selectNote now s = (trkMostRecent s, s) := by
  unfold selectNote; rw [if_neg (by rw [h]; decide)]

theorem selectNote_arp {now : U32} {s : State} (h : s.cfgActive.arp.en = true) : selectNote now s =
    (trkAt (arpIndex (arpStep s.cfgActive.arp now s).2) (arpStep s.cfgActive.arp now s).2,
      (arpStep s.cfgActive.arp now s).2) := by
  unfold selectNote; rw [if_pos h]

theorem selectNote_frame (now : U32) (s : State) : (selectNote now s).2 = { s with
    arpActive := (selectNote now s).2.arpActive, arpLastMs := (selectNote now s).2.arpLastMs
    arpCounter := (selectNote now s).2.arpCounter } := by
  cases h : s.cfgActive.arp.en
  · rw [selectNote_plain h]
  · rw [selectNote_arp h]; dsimp only; rw [arpStep_frame]

theorem trkAt_held {i : Nat} {s : State} (h : i < s.trkLen.val) : (heldNotes s)[i]? = some (trkAt i s) := by
  have hl : i < (heldNotes s).length := by rw [heldNotes_length]; exact h
  have h5 := s.trkLen.isLt
  rw [List.getElem?_eq_getElem hl, heldNotes_getElem, trkAt, if_pos h, List.getElem?_eq_getElem (by simp; omega)]
  rfl

theorem trkMostRecent_held {s : State} (h : s.trkLen ≠ 0) : (heldNotes s).head? = some (trkMostRecent s) := by
  have h0 : 0 < s.trkLen.val := Nat.pos_of_ne_zero fun h0 => h (Fin.ext h0)
  have hl : 0 < (heldNotes s).length := by rw [heldNotes_length]; exact h0
  rw [List.head?_eq_getElem?, List.getElem?_eq_getElem hl, heldNotes_getElem]
  rfl

/-- SELECT_NOTE of a tracker that holds notes: the note at the arpeggiator's index, or the first. -/
theorem selectNote_arp_held {now : U32} {s : State} (h : s.cfgActive.arp.en = true) (hl : s.trkLen ≠ 0) :
    (heldNotes s)[(selectNote now s).2.arpCounter.toNat % s.trkLen.val]? = some (selectNote now s).1 := by
  have h0 : 0 < s.trkLen.val := Nat.pos_of_ne_zero fun h0 => hl (Fin.ext h0)
  have hf := arpStep_frame s.cfgActive.arp now s
  rw [selectNote_arp h]
  dsimp only
  generalize (arpStep s.cfgActive.arp now s).2 = u at *
  have hslot : u.trkSlot = s.trkSlot := by rw [hf]
  have hlen : u.trkLen = s.trkLen := by rw [hf]
  rw [arpIndex_held (by rw [hlen]; exact hl), ← heldNotes_congr hslot hlen, ← hlen]
  exact trkAt_held (by rw [hlen]; exact Nat.mod_lt _ h0)

theorem selectNote_mem {now : U32} {s : State} (hl : s.trkLen ≠ 0) : (selectNote now s).1 ∈ heldNotes s := by
  cases h : s.cfgActive.arp.en
  · rw [selectNote_plain h]; exact List.mem_of_mem_head? (trkMostRecent_held hl)
  · exact List.mem_of_getElem? (selectNote_arp_held (now := now) h hl)

theorem retrigger_new {n : U8} {s : State} (h : n ≠ s.voiceNote ∨ s.voiceEn = false) :
    retrigger n s = { s with voiceEn := true, voiceNote := n, envStage := .attack } := by
  unfold retrigger; rw [if_pos h]; rfl

theorem retrigger_same {n : U8} {s : State} (h : n = s.voiceNote) (he : s.voiceEn = true) : retrigger n s = s := by
  unfold retrigger; rw [if_neg (by rw [he]; simp [h])]

theorem retrigger_frame (n : U8) (s : State) :
    retrigger n s = { s with voiceEn := true, voiceNote := n, envStage := (retrigger n s).envStage } := by
  by_cases h : n ≠ s.voiceNote ∨ s.voiceEn = false
  · rw [retrigger_new h]
  · rw [not_or, not_not, Bool.not_eq_false] at h
    rw [retrigger_same h.1 h.2, ← h.2, h.1]

/-- The note-selection step changes the arpeggiator, the voice and the stage, and nothing else. -/
theorem chooseNote_frame (now : U32) (s : State) : chooseNote now s = { s with
    arpActive := (chooseNote now s).arpActive, arpLastMs := (chooseNote now s).arpLastMs
    arpCounter := (chooseNote now s).arpCounter, voiceEn := decide (s.trkLen ≠ 0)
    voiceNote := if s.trkLen = 0 then s.voiceNote else (selectNote now s).1
    envStage := (chooseNote now s).envStage } := by
  by_cases h : s.trkLen = 0
  · simp only [chooseNote, if_pos h]
    rw [emptyVoice_frame]
    simp [h]
  · simp only [chooseNote, if_neg h]
    rw [retrigger_frame, selectNote_frame]
    simp [h]

/-- Stage Off after the note-selection step: it was Off before, and the voice stays disabled. -/
theorem chooseNote_off {now : U32} {s : State} (h : (chooseNote now s).envStage = .off) : s.envStage = .off := by
  by_cases hl : s.trkLen = 0
  · simp only [chooseNote, if_pos hl] at h
    cases he : s.voiceEn
    · rw [emptyVoice_off he] at h; exact h
    · rw [emptyVoice_on he] at h; cases h
  · simp only [chooseNote, if_neg hl] at h
    by_cases hr : (selectNote now s).1 ≠ (selectNote now s).2.voiceNote ∨ (selectNote now s).2.voiceEn = false
    · rw [retrigger_new hr] at h; cases h
    · rw [not_or, not_not, Bool.not_eq_false] at hr
      rw [retrigger_same hr.1 hr.2, selectNote_frame] at h
      exact h

/-! ## Steps 1 to 6 of a tick -/

/-- What steps 1 to 6 of a tick leave alone, and what they settle. -/
theorem tickControl_frame (now : U32) (s : State) : tickControl now s = { s with
    cfgActive := (adopt s).cfgActive, mboxPending := false, faults := (adopt s).faults, evq := []
    trkSlot := (drain (adopt s)).trkSlot, trkLen := (drain (adopt s)).trkLen
    arpActive := (tickControl now s).arpActive, arpLastMs := (tickControl now s).arpLastMs
    arpCounter := (tickControl now s).arpCounter
    voiceEn := (tickControl now s).voiceEn, voiceNote := (tickControl now s).voiceNote
    envStage := (tickControl now s).envStage
    envArate := envRate (adopt s).cfgActive.env.attack, envDrate := envRate (adopt s).cfgActive.env.decay
    envRrate := envRate (adopt s).cfgActive.env.release, envSus := (adopt s).cfgActive.env.sustain } := by
  unfold tickControl setRatesStep envSetRates
  rw [chooseNote_frame, drain_frame, adopt_frame]

theorem tickControl_voiceEn (now : U32) (s : State) :
    (tickControl now s).voiceEn = decide ((drain (adopt s)).trkLen ≠ 0) := by
  show (chooseNote now (drain (adopt s))).voiceEn = _
  rw [chooseNote_frame]

theorem tickControl_voiceNote (now : U32) (s : State) : (tickControl now s).voiceNote =
    if (drain (adopt s)).trkLen = 0 then s.voiceNote else (selectNote now (drain (adopt s))).1 := by
  show (chooseNote now (drain (adopt s))).voiceNote = _
  rw [chooseNote_frame]
  dsimp only
  congr 1
  rw [drain_frame, adopt_frame]

end Sys2Proof.Machine
end

