-- ==== Sys2Proof/Laws/Decode.lean ====
section
/-! SUPPORT. What the decoder can answer: the fields of an event word, the row of an offset, and which offsets have none. -/

namespace Sys2Proof

-- One theorem at a time: many at once ask for more threads than the memory limit of the check leaves room for.
set_option Elab.async false

/-! ## Event words -/

theorem ofBool_toNat (b : Bool) : (BitVec.ofBool b).toNat = b.toNat := by cases b <;> rfl

theorem append_toNat {m n : Nat} (x : BitVec m) (y : BitVec n) : (x ++ y).toNat = x.toNat * 2 ^ n + y.toNat := by
  rw [BitVec.toNat_append, Nat.shiftLeft_eq, Nat.mul_comm, ← Nat.two_pow_add_eq_or_of_lt y.isLt]

theorem extract_toNat (w : U32) (start len : Nat) : (w.extractLsb' start len).toNat = w.toNat / 2 ^ start % 2 ^ len := by
  rw [BitVec.extractLsb'_toNat, Nat.shiftRight_eq_div_pow]

theorem getLsbD_eq (w : U32) (i : Nat) : w.getLsbD i = decide (w.toNat / 2 ^ i % 2 = 1) := by
  rw [BitVec.getLsbD, Nat.testBit_eq_decide_div_mod_eq]

theorem evtWord_toNat (chan status : BitVec 4) (pitch : BitVec 7) (x15 : Bool) (vel : BitVec 7) (x23 : Bool) (b3 : U8) :
    (evtWord chan status pitch x15 vel x23 b3).toNat = b3.toNat * 2 ^ 24 + x23.toNat * 2 ^ 23 + vel.toNat * 2 ^ 16 +
      x15.toNat * 2 ^ 15 + pitch.toNat * 2 ^ 8 + status.toNat * 2 ^ 4 + chan.toNat := by
  unfold evtWord
  rw [append_toNat, append_toNat, append_toNat, append_toNat, append_toNat, append_toNat, ofBool_toNat, ofBool_toNat]
  ring

theorem evtWord_fields (chan status : BitVec 4) (pitch : BitVec 7) (x15 : Bool) (vel : BitVec 7) (x23 : Bool) (b3 : U8) :
    evtChan (evtWord chan status pitch x15 vel x23 b3) = chan ∧
    evtStatus (evtWord chan status pitch x15 vel x23 b3) = status ∧
    evtPitch (evtWord chan status pitch x15 vel x23 b3) = pitch ∧
    (evtWord chan status pitch x15 vel x23 b3).getLsbD 15 = x15 ∧
    evtVel (evtWord chan status pitch x15 vel x23 b3) = vel ∧
    (evtWord chan status pitch x15 vel x23 b3).getLsbD 23 = x23 ∧
    evtByte3 (evtWord chan status pitch x15 vel x23 b3) = b3 := by
  have h := evtWord_toNat chan status pitch x15 vel x23 b3
  have h1 := chan.isLt
  have h2 := status.isLt
  have h3 := pitch.isLt
  have h4 := vel.isLt
  have h5 := b3.isLt
  have h6 := x15.toNat_lt
  have h7 := x23.toNat_lt
  generalize evtWord chan status pitch x15 vel x23 b3 = w at h
  refine ⟨?_, ?_, ?_, ?_, ?_, ?_, ?_⟩
  · apply BitVec.eq_of_toNat_eq; rw [evtChan, extract_toNat]; omega
  · apply BitVec.eq_of_toNat_eq; rw [evtStatus, extract_toNat]; omega
  · apply BitVec.eq_of_toNat_eq; rw [evtPitch, extract_toNat]; omega
  · rw [getLsbD_eq]; cases x15 <;> simp at h ⊢ <;> omega
  · apply BitVec.eq_of_toNat_eq; rw [evtVel, extract_toNat]; omega
  · rw [getLsbD_eq]; cases x23 <;> simp at h ⊢ <;> omega
  · apply BitVec.eq_of_toNat_eq; rw [evtByte3, extract_toNat]; omega

/-- An event word is the word of its fields. -/
theorem evtWord_self (w : U32) : evtWord (evtChan w) (evtStatus w) (evtPitch w) (w.getLsbD 15) (evtVel w) (w.getLsbD 23)
    (evtByte3 w) = w := by
  apply BitVec.eq_of_toNat_eq
  have hw := w.isLt
  rw [evtWord_toNat, evtChan, evtStatus, evtPitch, evtVel, evtByte3, extract_toNat, extract_toNat, extract_toNat,
    extract_toNat, extract_toNat, getLsbD_eq, getLsbD_eq]
  have hb : ∀ n : Nat, (decide (n % 2 = 1)).toNat = n % 2 := by
    intro n
    rcases Nat.mod_two_eq_zero_or_one n with h | h <;> simp [h]
  rw [hb, hb]
  omega

/-! ## Register offsets -/

/-- A read decodes to the row of its offset, or to RD_RESERVED of an offset with no row. -/
theorem decodeRead_cases (addr : Offset) :
    (addr, decodeRead addr) ∈ readTable ∨ ((∀ row ∈ readTable, row.1 ≠ addr) ∧ decodeRead addr = .rdReserved addr) := by
  unfold decodeRead
  cases h : readTable.find? (fun row => row.1 == addr) with
  | some row =>
    have hr : row.1 = addr := by simpa using List.find?_some h
    exact .inl (hr ▸ List.mem_of_find?_eq_some h)
  | none => exact .inr ⟨fun row hrow => by simpa using List.find?_eq_none.1 h row hrow, rfl⟩

/-- A write decodes to the row of its offset, or to WR_RESERVED of an offset with no row. -/
theorem decodeWrite_cases (addr : Offset) (v : U32) :
    (∃ row ∈ writeTable, row.1 = addr ∧ decodeWrite addr v = row.2 v) ∨
      ((∀ row ∈ writeTable, row.1 ≠ addr) ∧ decodeWrite addr v = .wrReserved addr v) := by
  unfold decodeWrite
  cases h : writeTable.find? (fun row => row.1 == addr) with
  | some row =>
    have hr : row.1 = addr := by simpa using List.find?_some h
    exact .inl ⟨row, List.mem_of_find?_eq_some h, hr, rfl⟩
  | none => exact .inr ⟨fun row hrow => by simpa using List.find?_eq_none.1 h row hrow, rfl⟩

/-- The reads and the writes are of the same offsets, in the same order (R75). -/
theorem tables_offsets : writeTable.map Prod.fst = readTable.map Prod.fst := by decide +kernel

/-- An aligned offset has a row or is one R75 marks reserved, and not both. -/
theorem reservedOffset_iff (addr : Offset) (h : addr.toNat % 4 = 0) :
    reservedOffset addr = true ↔ addr ∉ readTable.map Prod.fst := by
  have key : ∀ n : Fin 128, reservedOffset (BitVec.ofNat 9 (4 * n.val)) =
      !((readTable.map Prod.fst).contains (BitVec.ofNat 9 (4 * n.val))) := by decide +kernel
  have hlt := addr.isLt
  have e : BitVec.ofNat 9 (4 * (addr.toNat / 4)) = addr := by
    apply BitVec.eq_of_toNat_eq
    rw [BitVec.toNat_ofNat]
    omega
  have hk := key ⟨addr.toNat / 4, by omega⟩
  simp only [e] at hk
  rw [hk]
  simp

theorem decodeRead_reserved {addr : Offset} (h : reservedOffset addr = true) : decodeRead addr = .rdReserved addr := by
  have h4 : addr.toNat % 4 = 0 := by
    simp only [reservedOffset, Bool.and_eq_true, decide_eq_true_eq] at h
    exact h.1
  rcases decodeRead_cases addr with hm | ⟨_, he⟩
  · exact absurd (List.mem_map_of_mem (f := Prod.fst) hm) ((reservedOffset_iff addr h4).1 h)
  · exact he

theorem decodeWrite_reserved {addr : Offset} (v : U32) (h : reservedOffset addr = true) :
    decodeWrite addr v = .wrReserved addr v := by
  have h4 : addr.toNat % 4 = 0 := by
    simp only [reservedOffset, Bool.and_eq_true, decide_eq_true_eq] at h
    exact h.1
  rcases decodeWrite_cases addr v with ⟨row, hm, hr, _⟩ | ⟨_, he⟩
  · have := List.mem_map_of_mem (f := Prod.fst) hm
    rw [hr, tables_offsets] at this
    exact absurd this ((reservedOffset_iff addr h4).1 h)
  · exact he

theorem decode_read {addr : Offset} (h : addr.toNat % 4 = 0) : decode (.access (.read addr 4)) = decodeRead addr := by
  have : (HostAccess.read addr 4).isLegal = true := by simp [HostAccess.isLegal, h]
  rw [decode, decodeAccess, if_pos this]

theorem decode_write {addr : Offset} (v : U32) (h : addr.toNat % 4 = 0) :
    decode (.access (.write addr 4 v)) = decodeWrite addr v := by
  have : (HostAccess.write addr 4 v).isLegal = true := by simp [HostAccess.isLegal, h]
  rw [decode, decodeAccess, if_pos this]

theorem decode_illegal {a : HostAccess} (h : a.isLegal = false) : decode (.access a) = .busError a := by
  show decodeAccess a = _
  unfold decodeAccess
  rw [if_neg (by rw [h]; decide)]

/-- Every row of the read table is well formed and encodes to its offset. -/
theorem readTable_encode : ∀ row ∈ readTable, row.2.wellFormed = true ∧ encode row.2 = some (.access (.read row.1 4)) := by
  have h : readTable.all (fun row => row.2.wellFormed && decide (encode row.2 = some (.access (.read row.1 4)))) = true := by
    decide +kernel
  intro row hrow
  simpa using List.all_eq_true.1 h row hrow

/-- Every row of the write table is well formed and encodes to its offset, with every value. -/
theorem writeTable_encode (v : U32) : ∀ row ∈ writeTable, (row.2 v).wellFormed = true ∧
    encode (row.2 v) = some (.access (.write row.1 4 v)) := by
  simp only [writeTable, List.forall_mem_append]
  refine ⟨⟨?_, ?_⟩, ?_⟩
  · simp only [writeTable0, List.forall_mem_cons]
    simp [Instr.wellFormed, encode]
  · simp only [writeTable1, List.forall_mem_cons]
    simp [Instr.wellFormed, encode]
  · simp only [writeTable2, List.forall_mem_cons]
    simp [Instr.wellFormed, encode]

end Sys2Proof
end

