-- ==== Sys2Proof/Laws/Float.lean ====
section
/-! SUPPORT. What the binary32 operations of Machine/Float.lean do, said once: rounding is exact on representable values
and monotone, so a result lies between any two representable values that the exact result lies between. -/

namespace Sys2Proof.Machine

-- One theorem at a time: many at once ask for more threads than the memory limit of the check leaves room for.
set_option Elab.async false

/-! ## Patterns and magnitudes -/

/-- The magnitude (units of 2^-149) of the sign-less pattern `m`. -/
def patMag (m : Nat) : Nat := if m < 2 ^ 23 then m else (2 ^ 23 + m % 2 ^ 23) * 2 ^ (m / 2 ^ 23 - 1)

theorem fExpo_eq (x : F32) : fExpo x = x.toNat / 2 ^ 23 % 2 ^ 8 := by
  simp [fExpo, BitVec.extractLsb'_toNat, Nat.shiftRight_eq_div_pow]

theorem fFrac_eq (x : F32) : fFrac x = x.toNat % 2 ^ 23 := by
  simp [fFrac, BitVec.extractLsb'_toNat]

theorem fSign_eq (x : F32) : fSign x = decide (2 ^ 31 ≤ x.toNat) := by
  have hx := x.isLt
  rw [fSign, BitVec.getLsbD, Nat.testBit_eq_decide_div_mod_eq]
  congr 1
  have : x.toNat / 2 ^ 31 < 2 := by omega
  apply propext
  omega

theorem fMag_eq (x : F32) : fMag x = patMag (x.toNat % 2 ^ 31) := by
  have hx := x.isLt
  have he : fExpo x = x.toNat % 2 ^ 31 / 2 ^ 23 := by rw [fExpo_eq]; omega
  have hf : fFrac x = x.toNat % 2 ^ 31 % 2 ^ 23 := by rw [fFrac_eq]; omega
  unfold fMag patMag
  rw [he, hf]
  by_cases h : x.toNat % 2 ^ 31 < 2 ^ 23
  · rw [if_pos (by omega), if_pos h]; omega
  · rw [if_neg (by omega), if_neg h]

theorem patMag_succ (m : Nat) : patMag m < patMag (m + 1) := by
  unfold patMag
  by_cases h1 : m + 1 < 2 ^ 23
  · rw [if_pos (by omega), if_pos h1]; omega
  · rw [if_neg h1]
    by_cases h2 : m < 2 ^ 23
    · rw [if_pos h2]
      have : (m + 1) / 2 ^ 23 = 1 := by omega
      rw [this]; simp; omega
    · rw [if_neg h2]
      by_cases h3 : (m + 1) % 2 ^ 23 = 0
      · have e1 : (m + 1) / 2 ^ 23 = m / 2 ^ 23 + 1 := by omega
        have e2 : m / 2 ^ 23 + 1 - 1 = (m / 2 ^ 23 - 1) + 1 := by omega
        have e3 : m % 2 ^ 23 = 2 ^ 23 - 1 := by omega
        rw [h3, e1, e2, e3, pow_succ 2 (m / 2 ^ 23 - 1)]
        have hp : 0 < 2 ^ (m / 2 ^ 23 - 1) := Nat.two_pow_pos _
        generalize 2 ^ (m / 2 ^ 23 - 1) = p at hp
        omega
      · have e1 : (m + 1) / 2 ^ 23 = m / 2 ^ 23 := by omega
        have e2 : (m + 1) % 2 ^ 23 = m % 2 ^ 23 + 1 := by omega
        rw [e1, e2]
        exact Nat.mul_lt_mul_of_pos_right (by omega) (Nat.two_pow_pos _)

theorem patMag_strictMono : StrictMono patMag := strictMono_nat_of_lt_succ patMag_succ

@[simp] theorem patMag_le_iff {a b : Nat} : patMag a ≤ patMag b ↔ a ≤ b := patMag_strictMono.le_iff_le

@[simp] theorem patMag_lt_iff {a b : Nat} : patMag a < patMag b ↔ a < b := patMag_strictMono.lt_iff_lt

@[simp] theorem patMag_zero : patMag 0 = 0 := rfl

@[simp] theorem patMag_eq_zero {a : Nat} : patMag a = 0 ↔ a = 0 := by
  rw [← patMag_zero]; exact patMag_strictMono.injective.eq_iff

/-! ## Rounding -/

/-- The nearest whole number of units, ties to even: the heart of `roundMag`. -/
def nearestUnits (num unit : Nat) : Nat :=
  if unit < 2 * (num % unit) ∨ (2 * (num % unit) = unit ∧ num / unit % 2 = 1) then num / unit + 1 else num / unit

theorem roundMag_eq (num den : Nat) : roundMag num den =
    min ((Nat.log2 (num / den) - 23) * 2 ^ 23 + nearestUnits num (den * 2 ^ (Nat.log2 (num / den) - 23))) 0x7F800000 := rfl

theorem roundMag_le_inf (num den : Nat) : roundMag num den ≤ 0x7F800000 := by
  rw [roundMag_eq]; exact Nat.min_le_right _ _

theorem nearestUnits_ge (num unit : Nat) : num / unit ≤ nearestUnits num unit := by
  unfold nearestUnits; split <;> omega

theorem nearestUnits_le (num unit : Nat) : nearestUnits num unit ≤ num / unit + 1 := by
  unfold nearestUnits; split <;> omega

theorem nearestUnits_mono {n m unit : Nat} (h : n ≤ m) : nearestUnits n unit ≤ nearestUnits m unit := by
  have hq : n / unit ≤ m / unit := Nat.div_le_div_right h
  rcases Nat.lt_or_ge (n / unit) (m / unit) with hlt | hge
  · exact (nearestUnits_le n unit).trans (Nat.succ_le_of_lt hlt |>.trans (nearestUnits_ge m unit))
  · have he : n / unit = m / unit := Nat.le_antisymm hq hge
    have h1 := Nat.div_add_mod n unit
    have h2 := Nat.div_add_mod m unit
    have hr : n % unit ≤ m % unit := by rw [he] at h1; omega
    unfold nearestUnits
    rw [he]
    split <;> split <;> omega

theorem nearestUnits_mul (q unit : Nat) (h : 0 < unit) : nearestUnits (q * unit) unit = q := by
  unfold nearestUnits
  simp only [Nat.mul_mod_left, Nat.mul_div_cancel _ h]
  rw [if_neg (by omega)]

/-- How far the significand of `q` (a whole part) is shifted: it then lies below 2^24, and from 2^23 on unless the shift is 0. -/
theorem quotient_bounds (num den : Nat) :
    num / (den * 2 ^ (Nat.log2 (num / den) - 23)) < 2 ^ 24 ∧
      (0 < Nat.log2 (num / den) - 23 → 2 ^ 23 ≤ num / (den * 2 ^ (Nat.log2 (num / den) - 23))) := by
  rw [← Nat.div_div_eq_div_mul]
  generalize num / den = q
  have hlt : q < 2 ^ (Nat.log2 q + 1) := Nat.lt_log2_self
  constructor
  · rw [Nat.div_lt_iff_lt_mul (Nat.two_pow_pos _), ← pow_add]
    exact hlt.trans_le (Nat.pow_le_pow_right (by omega) (by omega))
  · intro h
    have hq : q ≠ 0 := by rintro rfl; simp at h
    rw [Nat.le_div_iff_mul_le (Nat.two_pow_pos _), ← pow_add]
    have : 2 ^ Nat.log2 q ≤ q := Nat.log2_self_le hq
    exact (Nat.pow_le_pow_right (by omega) (by omega)).trans this

theorem log2_mono {a b : Nat} (h : a ≤ b) : Nat.log2 a ≤ Nat.log2 b := by
  rcases Nat.eq_zero_or_pos a with rfl | ha
  · simp
  · rw [Nat.le_log2 (by omega)]
    exact (Nat.log2_self_le (by omega)).trans h

/-- Rounding is monotone. -/
theorem roundMag_mono {n m : Nat} (den : Nat) (h : n ≤ m) : roundMag n den ≤ roundMag m den := by
  rw [roundMag_eq, roundMag_eq]
  apply min_le_min_right
  have hl : Nat.log2 (n / den) ≤ Nat.log2 (m / den) := log2_mono (Nat.div_le_div_right h)
  rcases Nat.lt_or_ge (Nat.log2 (n / den) - 23) (Nat.log2 (m / den) - 23) with hlt | hge
  · have a := (quotient_bounds n den).1
    have b := (quotient_bounds m den).2 (by omega)
    have c := nearestUnits_le n (den * 2 ^ (Nat.log2 (n / den) - 23))
    have d := nearestUnits_ge m (den * 2 ^ (Nat.log2 (m / den) - 23))
    generalize nearestUnits n _ = x at *
    generalize nearestUnits m _ = y at *
    omega
  · have he : Nat.log2 (n / den) - 23 = Nat.log2 (m / den) - 23 := by omega
    rw [he]
    exact Nat.add_le_add_left (nearestUnits_mono h) _

/-- Rounding is exact on what binary32 can represent. -/
theorem roundMag_patMag (m den : Nat) (hm : m ≤ 0x7F800000) (hd : 0 < den) : roundMag (patMag m * den) den = m := by
  rw [roundMag_eq, Nat.mul_div_cancel _ hd]
  by_cases h : m < 2 ^ 23
  · have hp : patMag m = m := if_pos h
    have hl : Nat.log2 m - 23 = 0 := by
      rcases Nat.eq_zero_or_pos m with rfl | h0
      · simp
      · have := (Nat.log2_lt (by omega : m ≠ 0)).2 (h.trans (by norm_num : 2 ^ 23 < 2 ^ 24)); omega
    rw [hp, hl]
    simp only [pow_zero, mul_one, zero_mul, zero_add]
    rw [nearestUnits_mul _ _ hd]; omega
  · have hp : patMag m = (2 ^ 23 + m % 2 ^ 23) * 2 ^ (m / 2 ^ 23 - 1) := if_neg h
    have hl : Nat.log2 (patMag m) = 23 + (m / 2 ^ 23 - 1) := by
      have h0 : patMag m ≠ 0 := by simp; omega
      rw [Nat.log2_eq_iff h0, hp, pow_add, show 23 + (m / 2 ^ 23 - 1) + 1 = 24 + (m / 2 ^ 23 - 1) by omega, pow_add]
      exact ⟨Nat.mul_le_mul_right _ (by omega), Nat.mul_lt_mul_of_pos_right (by omega) (Nat.two_pow_pos _)⟩
    rw [hl, Nat.add_sub_cancel_left, hp, show (2 ^ 23 + m % 2 ^ 23) * 2 ^ (m / 2 ^ 23 - 1) * den
      = (2 ^ 23 + m % 2 ^ 23) * (den * 2 ^ (m / 2 ^ 23 - 1)) by ring,
      nearestUnits_mul _ _ (Nat.mul_pos hd (Nat.two_pow_pos _))]
    omega

theorem le_roundMag {k num den : Nat} (hk : k ≤ 0x7F800000) (hd : 0 < den) (h : patMag k * den ≤ num) :
    k ≤ roundMag num den := by
  have := roundMag_mono den h
  rwa [roundMag_patMag k den hk hd] at this

theorem roundMag_le {k num den : Nat} (hk : k ≤ 0x7F800000) (hd : 0 < den) (h : num ≤ patMag k * den) :
    roundMag num den ≤ k := by
  have := roundMag_mono den h
  rwa [roundMag_patMag k den hk hd] at this

@[simp] theorem roundMag_zero (den : Nat) : roundMag 0 den = 0 := by
  simp [roundMag]

/-! ## Packing -/

theorem fPack_toNat (neg : Bool) {m : Nat} (hm : m < 2 ^ 31) : (fPack neg m).toNat = (if neg then 2 ^ 31 else 0) + m := by
  rw [fPack, BitVec.toNat_ofNat]
  apply Nat.mod_eq_of_lt
  split <;> omega

@[simp] theorem fSign_fPack (neg : Bool) {m : Nat} (hm : m < 2 ^ 31) : fSign (fPack neg m) = neg := by
  rw [fSign_eq, fPack_toNat neg hm]
  cases neg <;> simp <;> omega

@[simp] theorem fMag_fPack (neg : Bool) {m : Nat} (hm : m < 2 ^ 31) : fMag (fPack neg m) = patMag m := by
  rw [fMag_eq, fPack_toNat neg hm]
  congr 1
  split <;> omega

theorem fScaled_fPack (neg : Bool) {m : Nat} (hm : m < 2 ^ 31) :
    fScaled (fPack neg m) = if neg then -(patMag m : Int) else (patMag m : Int) := by
  rw [fScaled, fSign_fPack neg hm, fMag_fPack neg hm]

/-- A word is its sign and its pattern. -/
theorem fPack_self (x : F32) : fPack (fSign x) (x.toNat % 2 ^ 31) = x := by
  apply BitVec.eq_of_toNat_eq
  rw [fPack_toNat _ (by omega), fSign_eq]
  have := x.isLt
  by_cases h : 2 ^ 31 ≤ x.toNat
  · rw [if_pos (by simpa using h)]; omega
  · rw [if_neg (by simpa using h)]; omega

theorem fScaled_eq (x : F32) :
    fScaled x = if fSign x then -(patMag (x.toNat % 2 ^ 31) : Int) else (patMag (x.toNat % 2 ^ 31) : Int) := by
  rw [fScaled, fMag_eq]

/-! ## Classes -/

theorem fIsNaN_iff (x : F32) : fIsNaN x = true ↔ 0x7F800000 < x.toNat % 2 ^ 31 := by
  have := x.isLt
  simp only [fIsNaN, fExpo_eq, fFrac_eq, Bool.and_eq_true, beq_iff_eq, bne_iff_ne]
  omega

theorem fIsNaN_false_iff (x : F32) : fIsNaN x = false ↔ x.toNat % 2 ^ 31 ≤ 0x7F800000 := by
  rw [← Bool.not_eq_true, fIsNaN_iff]; omega

theorem fIsFinite_iff (x : F32) : fIsFinite x = true ↔ x.toNat % 2 ^ 31 < 0x7F800000 := by
  have := x.isLt
  simp only [fIsFinite, fExpo_eq, bne_iff_ne]
  omega

theorem fIsInf_iff (x : F32) : fIsInf x = true ↔ x.toNat % 2 ^ 31 = 0x7F800000 := by
  have := x.isLt
  simp only [fIsInf, fExpo_eq, fFrac_eq, Bool.and_eq_true, beq_iff_eq]
  omega

theorem not_nan_of_finite {x : F32} (h : fIsFinite x = true) : fIsNaN x = false := by
  rw [fIsFinite_iff] at h; rw [fIsNaN_false_iff]; omega

theorem not_inf_of_finite {x : F32} (h : fIsFinite x = true) : fIsInf x = false := by
  rw [fIsFinite_iff] at h; rw [← Bool.not_eq_true, fIsInf_iff]; omega

theorem fPack_not_nan (neg : Bool) {m : Nat} (hm : m ≤ 0x7F800000) : fIsNaN (fPack neg m) = false := by
  rw [fIsNaN_false_iff, fPack_toNat neg (by omega)]
  split <;> omega

theorem fPack_finite (neg : Bool) {m : Nat} (hm : m < 0x7F800000) : fIsFinite (fPack neg m) = true := by
  rw [fIsFinite_iff, fPack_toNat neg (by omega)]
  split <;> omega

/-- A value within the bounds of finite values is finite. -/
theorem finite_of_between {lo x hi : F32} (hlo : fIsFinite lo = true) (hhi : fIsFinite hi = true)
    (h1 : fScaled lo ≤ fScaled x) (h2 : fScaled x ≤ fScaled hi) : fIsFinite x = true := by
  rw [fIsFinite_iff] at *
  by_contra hx
  have hl : patMag (lo.toNat % 2 ^ 31) < patMag (x.toNat % 2 ^ 31) := by rw [patMag_lt_iff]; omega
  have hh : patMag (hi.toNat % 2 ^ 31) < patMag (x.toNat % 2 ^ 31) := by rw [patMag_lt_iff]; omega
  rw [fScaled_eq x] at h1 h2
  rw [fScaled_eq lo] at h1
  rw [fScaled_eq hi] at h2
  generalize patMag (lo.toNat % 2 ^ 31) = a at *
  generalize patMag (x.toNat % 2 ^ 31) = b at *
  generalize patMag (hi.toNat % 2 ^ 31) = c at *
  split at h1 <;> split at h1 <;> split at h2 <;> simp_all <;> omega

/-! ## The order -/

theorem fLe_iff (x y : F32) : fLe x y = true ↔ fIsNaN x = false ∧ fIsNaN y = false ∧ fScaled x ≤ fScaled y := by
  simp [fLe, and_assoc]

theorem fLt_iff (x y : F32) : fLt x y = true ↔ fIsNaN x = false ∧ fIsNaN y = false ∧ fScaled x < fScaled y := by
  simp [fLt, and_assoc]

theorem fEq_iff (x y : F32) : fEq x y = true ↔ fIsNaN x = false ∧ fIsNaN y = false ∧ fScaled x = fScaled y := by
  simp [fEq, and_assoc]

/-- `+0.0 <= x < 1.0` on bit patterns. -/
theorem unit_pattern {x : F32} (h0 : fSign x = false) (h1 : fScaled x < fScaled fOne) :
    x.toNat < 0x3F800000 := by
  have e : fScaled fOne = (patMag 0x3F800000 : Int) := by rw [fScaled_eq]; decide +kernel
  rw [e, fScaled_eq, h0] at h1
  rw [fSign_eq] at h0
  have h2 : patMag (x.toNat % 2 ^ 31) < patMag 0x3F800000 := by simpa using h1
  rw [patMag_lt_iff] at h2
  simp at h0
  omega

/-! ## A rounded quotient stays between representable values -/

/-- If the exact value `± num / den` is at most `hi`, so is its rounding. -/
theorem pack_le (neg : Bool) {num den : Nat} (hd : 0 < den) {hi : F32} (hn : fIsNaN hi = false)
    (h : (if neg then -(num : Int) else num) ≤ fScaled hi * den) :
    fScaled (fPack neg (roundMag num den)) ≤ fScaled hi := by
  have hr := roundMag_le_inf num den
  rw [fIsNaN_false_iff] at hn
  rw [fScaled_fPack neg (by omega)]
  rw [fScaled_eq hi] at h ⊢
  generalize hi.toNat % 2 ^ 31 = k at *
  cases neg <;> cases hs : fSign hi <;> rw [hs] at h <;> simp only [if_true, if_false, Bool.false_eq_true] at h ⊢
  · exact_mod_cast patMag_le_iff.2 (roundMag_le hn hd (by exact_mod_cast h))
  · have hz : patMag k * den = 0 ∧ num = 0 := by
      have : (num : Int) + (patMag k * den : Nat) ≤ 0 := by push_cast; linarith
      constructor <;> omega
    have hz' : patMag k = 0 := by
      rcases Nat.mul_eq_zero.1 hz.1 with h | h <;> omega
    rw [hz.2, hz']; simp
  · have : (0 : Int) ≤ patMag k := Int.natCast_nonneg _
    have : (0 : Int) ≤ patMag (roundMag num den) := Int.natCast_nonneg _
    omega
  · have : patMag k * den ≤ num := by
      have : ((patMag k * den : Nat) : Int) ≤ num := by push_cast; linarith
      exact_mod_cast this
    have := patMag_le_iff.2 (le_roundMag hn hd this)
    omega

/-- If the exact value `± num / den` is at least `lo`, so is its rounding. -/
theorem le_pack (neg : Bool) {num den : Nat} (hd : 0 < den) {lo : F32} (hn : fIsNaN lo = false)
    (h : fScaled lo * den ≤ (if neg then -(num : Int) else num)) :
    fScaled lo ≤ fScaled (fPack neg (roundMag num den)) := by
  have hr := roundMag_le_inf num den
  rw [fIsNaN_false_iff] at hn
  rw [fScaled_fPack neg (by omega)]
  rw [fScaled_eq lo] at h ⊢
  generalize lo.toNat % 2 ^ 31 = k at *
  cases neg <;> cases hs : fSign lo <;> rw [hs] at h <;> simp only [if_true, if_false, Bool.false_eq_true] at h ⊢
  · exact_mod_cast patMag_le_iff.2 (le_roundMag hn hd (by exact_mod_cast h))
  · have : (0 : Int) ≤ patMag k := Int.natCast_nonneg _
    have : (0 : Int) ≤ patMag (roundMag num den) := Int.natCast_nonneg _
    omega
  · have hz : patMag k * den = 0 ∧ num = 0 := by
      have : (num : Int) + (patMag k * den : Nat) ≤ 0 := by push_cast; linarith
      constructor <;> omega
    have hz' : patMag k = 0 := by
      rcases Nat.mul_eq_zero.1 hz.1 with h | h <;> omega
    rw [hz.2, hz']; simp
  · have : num ≤ patMag k * den := by
      have : (num : Int) ≤ ((patMag k * den : Nat) : Int) := by push_cast; linarith
      exact_mod_cast this
    have := patMag_le_iff.2 (roundMag_le hn hd this)
    omega

/-! ## Sums -/

theorem fScaled_zero : fScaled fZero = 0 := by decide +kernel

theorem fScaled_negZero : fScaled fNegZero = 0 := by decide +kernel

theorem fScaled_neg (x : F32) : fScaled (fNeg x) = -fScaled x := by
  have hx := x.isLt
  have hxor : (fNeg x).toNat % 2 ^ 31 = x.toNat % 2 ^ 31 ∧ fSign (fNeg x) = !fSign x := by
    constructor
    · have : (fNeg x).toNat = x.toNat ^^^ 2 ^ 31 := by simp [fNeg, BitVec.toNat_xor]
      rw [this, ← Nat.and_two_pow_sub_one_eq_mod, ← Nat.and_two_pow_sub_one_eq_mod, Nat.and_xor_distrib_right]
      have : (2 ^ 31 &&& (2 ^ 31 - 1) : Nat) = 0 := by decide
      rw [this, Nat.xor_zero]
    · simp [fSign, fNeg]
  rw [fScaled_eq, fScaled_eq, hxor.1, hxor.2]
  cases fSign x <;> simp

theorem fNeg_toNat_mod (x : F32) : (fNeg x).toNat % 2 ^ 31 = x.toNat % 2 ^ 31 := by
  have : (fNeg x).toNat = x.toNat ^^^ 2 ^ 31 := by simp [fNeg, BitVec.toNat_xor]
  rw [this, ← Nat.and_two_pow_sub_one_eq_mod, ← Nat.and_two_pow_sub_one_eq_mod, Nat.and_xor_distrib_right]
  have : (2 ^ 31 &&& (2 ^ 31 - 1) : Nat) = 0 := by decide
  rw [this, Nat.xor_zero]

@[simp] theorem fIsFinite_neg (x : F32) : fIsFinite (fNeg x) = fIsFinite x := by
  rw [Bool.eq_iff_iff, fIsFinite_iff, fIsFinite_iff, fNeg_toNat_mod]

@[simp] theorem fIsNaN_neg (x : F32) : fIsNaN (fNeg x) = fIsNaN x := by
  rw [Bool.eq_iff_iff, fIsNaN_iff, fIsNaN_iff, fNeg_toNat_mod]

/-- What the rounding of an integer can be: not a NaN, and between any two representable values around the integer. -/
theorem fRoundInt_spec (z : F32) (hz : z = fZero ∨ z = fNegZero) (v : Int) :
    fIsNaN (fRoundInt z v) = false ∧
      (∀ hi, fIsNaN hi = false → v ≤ fScaled hi → fScaled (fRoundInt z v) ≤ fScaled hi) ∧
      (∀ lo, fIsNaN lo = false → fScaled lo ≤ v → fScaled lo ≤ fScaled (fRoundInt z v)) := by
  by_cases h0 : v = 0
  · subst h0
    have hs : fScaled z = 0 := by
      rcases hz with rfl | rfl
      · exact fScaled_zero
      · exact fScaled_negZero
    simp only [fRoundInt, if_true, hs]
    refine ⟨?_, fun _ _ h => h, fun _ _ h => h⟩
    rcases hz with rfl | rfl <;> decide +kernel
  · have hv : (if decide (v < 0) then -((v.natAbs : Nat) : Int) else ((v.natAbs : Nat) : Int)) = v := by
      by_cases h : v < 0
      · rw [if_pos (by simpa using h)]; omega
      · rw [if_neg (by simpa using h)]; omega
    simp only [fRoundInt, if_neg h0]
    refine ⟨fPack_not_nan _ (roundMag_le_inf _ _), fun hi hn h => ?_, fun lo hn h => ?_⟩
    · exact pack_le _ one_pos hn (by rw [hv]; simpa using h)
    · exact le_pack _ one_pos hn (by rw [hv]; simpa using h)

theorem fSum_finite (nan : F32) {x y : F32} (hx : fIsFinite x = true) (hy : fIsFinite y = true) :
    fSum nan x y = fRoundInt (if fSign x && fSign y then fNegZero else fZero) (fScaled x + fScaled y) := by
  simp [fSum, not_nan_of_finite hx, not_nan_of_finite hy, not_inf_of_finite hx, not_inf_of_finite hy]

/-- A sum of finite values: not a NaN, and between any two representable values around the exact sum. -/
theorem fAdd_spec {x y : F32} (hx : fIsFinite x = true) (hy : fIsFinite y = true) :
    fIsNaN (fAdd x y) = false ∧
      (∀ hi, fIsNaN hi = false → fScaled x + fScaled y ≤ fScaled hi → fScaled (fAdd x y) ≤ fScaled hi) ∧
      (∀ lo, fIsNaN lo = false → fScaled lo ≤ fScaled x + fScaled y → fScaled lo ≤ fScaled (fAdd x y)) := by
  rw [fAdd, fSum_finite _ hx hy]
  exact fRoundInt_spec _ (by split <;> simp) _

/-- A difference of finite values: not a NaN, and between any two representable values around the exact difference. -/
theorem fSub_spec {x y : F32} (hx : fIsFinite x = true) (hy : fIsFinite y = true) :
    fIsNaN (fSub x y) = false ∧
      (∀ hi, fIsNaN hi = false → fScaled x - fScaled y ≤ fScaled hi → fScaled (fSub x y) ≤ fScaled hi) ∧
      (∀ lo, fIsNaN lo = false → fScaled lo ≤ fScaled x - fScaled y → fScaled lo ≤ fScaled (fSub x y)) := by
  rw [fSub, fSum_finite _ hx (by simpa using hy), fScaled_neg, ← sub_eq_add_neg]
  exact fRoundInt_spec _ (by split <;> simp) _

/-! ## Products and quotients -/

theorem signed_product (x y : F32) :
    (if (fSign x != fSign y) = true then -((fMag x * fMag y : Nat) : Int) else ((fMag x * fMag y : Nat) : Int))
      = fScaled x * fScaled y := by
  rw [fScaled, fScaled]
  cases fSign x <;> cases fSign y <;> simp

theorem fMul_finite {x y : F32} (hx : fIsFinite x = true) (hy : fIsFinite y = true) :
    fMul x y = fPack (fSign x != fSign y) (roundMag (fMag x * fMag y) (2 ^ 149)) := by
  simp [fMul, not_nan_of_finite hx, not_nan_of_finite hy, not_inf_of_finite hx, not_inf_of_finite hy]

/-- A product of finite values: not a NaN, and between any two representable values around the exact product. -/
theorem fMul_spec {x y : F32} (hx : fIsFinite x = true) (hy : fIsFinite y = true) :
    fIsNaN (fMul x y) = false ∧
      (∀ hi, fIsNaN hi = false → fScaled x * fScaled y ≤ fScaled hi * 2 ^ 149 → fScaled (fMul x y) ≤ fScaled hi) ∧
      (∀ lo, fIsNaN lo = false → fScaled lo * 2 ^ 149 ≤ fScaled x * fScaled y → fScaled lo ≤ fScaled (fMul x y)) := by
  rw [fMul_finite hx hy]
  refine ⟨fPack_not_nan _ (roundMag_le_inf _ _), fun hi hn h => ?_, fun lo hn h => ?_⟩
  · exact pack_le _ (by positivity) hn (by rw [signed_product]; exact_mod_cast h)
  · exact le_pack _ (by positivity) hn (by rw [signed_product]; exact_mod_cast h)

theorem fMag_pos_of_scaled {y : F32} (h : fScaled y ≠ 0) : 0 < fMag y := by
  rw [fScaled] at h
  split at h <;> omega

theorem fDiv_finite {x y : F32} (hx : fIsFinite x = true) (hy : fIsFinite y = true) (h0 : fScaled y ≠ 0) :
    fDiv x y = fPack (fSign x != fSign y) (roundMag (fMag x * 2 ^ 149) (fMag y)) := by
  have := fMag_pos_of_scaled h0
  simp [fDiv, not_nan_of_finite hx, not_nan_of_finite hy, not_inf_of_finite hx, not_inf_of_finite hy, this.ne']

/-- A quotient of finite values with a positive divisor: not a NaN, and between any two representable values around the
exact quotient. -/
theorem fDiv_spec {x y : F32} (hx : fIsFinite x = true) (hy : fIsFinite y = true) (h0 : 0 < fScaled y) :
    fIsNaN (fDiv x y) = false ∧
      (∀ hi, fIsNaN hi = false → fScaled x * 2 ^ 149 ≤ fScaled hi * fScaled y → fScaled (fDiv x y) ≤ fScaled hi) ∧
      (∀ lo, fIsNaN lo = false → fScaled lo * fScaled y ≤ fScaled x * 2 ^ 149 → fScaled lo ≤ fScaled (fDiv x y)) := by
  rw [fDiv_finite hx hy h0.ne']
  have hp := fMag_pos_of_scaled h0.ne'
  have hs : fSign y = false := by
    rw [fScaled] at h0; by_contra h; simp at h; simp [h] at h0; omega
  have hy' : ((fMag y : Nat) : Int) = fScaled y := by simp [fScaled, hs]
  have hx' : (if (fSign x != fSign y) = true then -((fMag x * 2 ^ 149 : Nat) : Int) else ((fMag x * 2 ^ 149 : Nat) : Int))
      = fScaled x * 2 ^ 149 := by
    rw [fScaled, hs]; cases fSign x <;> simp
  refine ⟨fPack_not_nan _ (roundMag_le_inf _ _), fun hi hn h => ?_, fun lo hn h => ?_⟩
  · exact pack_le _ hp hn (by rw [hx', hy']; exact h)
  · exact le_pack _ hp hn (by rw [hx', hy']; exact h)

/-! ## Clamps -/

/-- The clamp of a value that is not a NaN lies between its bounds (R13). -/
theorem fClamp_spec {x lo hi : F32} (hx : fIsNaN x = false) (hlo : fIsNaN lo = false) (hhi : fIsNaN hi = false)
    (h : fScaled lo ≤ fScaled hi) : fLe lo (fClamp x lo hi) = true ∧ fLe (fClamp x lo hi) hi = true := by
  simp only [fClamp, fLe_iff]
  by_cases h1 : fLt x lo = true
  · simp [h1, hlo, hhi, h]
  · by_cases h2 : fLt hi x = true
    · simp [h1, h2, hlo, hhi, h]
    · have a : fScaled lo ≤ fScaled x := by
        by_contra hc; exact h1 ((fLt_iff _ _).2 ⟨hx, hlo, by omega⟩)
      have b : fScaled x ≤ fScaled hi := by
        by_contra hc; exact h2 ((fLt_iff _ _).2 ⟨hhi, hx, by omega⟩)
      simp [h1, h2, hx, hlo, hhi, a, b]

end Sys2Proof.Machine
end

