-- ==== Sys2Proof/Laws/Exact.lean ====
section
/-! SUPPORT. Values binary32 represents exactly: which integers (in units of 2^-149) are values, the exact floor, and the
bounds of sums, differences, products and quotients that follow. -/

namespace Sys2Proof.Machine

-- One theorem at a time: many at once ask for more threads than the memory limit of the check leaves room for.
set_option Elab.async false

/-! ## Representable values -/

/-- A 24-bit significand at any exponent is the magnitude of a pattern. -/
theorem exists_pattern (m e : Nat) (hm : m < 2 ^ 24) : ∃ k, patMag k = m * 2 ^ e := by
  induction e generalizing m with
  | zero =>
    by_cases h : m < 2 ^ 23
    · exact ⟨m, by rw [patMag, if_pos h]; simp⟩
    · refine ⟨m, ?_⟩
      have h1 : m % 2 ^ 23 = m - 2 ^ 23 := by omega
      have h2 : m / 2 ^ 23 = 1 := by omega
      rw [patMag, if_neg h, h1, h2]
      omega
  | succ e ih =>
    by_cases h : m < 2 ^ 23
    · obtain ⟨k, hk⟩ := ih (2 * m) (by omega)
      exact ⟨k, by rw [hk, pow_succ]; ring⟩
    · refine ⟨(e + 2) * 2 ^ 23 + (m - 2 ^ 23), ?_⟩
      have h1 : ((e + 2) * 2 ^ 23 + (m - 2 ^ 23)) % 2 ^ 23 = m - 2 ^ 23 := by omega
      have h2 : ((e + 2) * 2 ^ 23 + (m - 2 ^ 23)) / 2 ^ 23 = e + 2 := by omega
      rw [patMag, if_neg (by omega), h1, h2]
      have h3 : 2 ^ 23 + (m - 2 ^ 23) = m := by omega
      rw [h3]
      rfl

theorem patMag_inf : patMag 0x7F800000 = 2 ^ 149 * 2 ^ 128 := by decide +kernel

/-- An integer whose magnitude is a 24-bit significand at an exponent, below 2^128 (2^277 units), is a finite value. -/
theorem exists_value (v : Int) (m e : Nat) (hm : m < 2 ^ 24) (hv : v.natAbs = m * 2 ^ e) (hb : v.natAbs < 2 ^ 149 * 2 ^ 128) :
    ∃ r : F32, fIsFinite r = true ∧ fScaled r = v := by
  obtain ⟨k, hk⟩ := exists_pattern m e hm
  rw [← hv] at hk
  have hlt : k < 0x7F800000 := by rw [← patMag_lt_iff, hk, patMag_inf]; exact hb
  refine ⟨fPack (decide (v < 0)) k, fPack_finite _ hlt, ?_⟩
  rw [fScaled_fPack _ (by omega), hk]
  by_cases h : v < 0
  · rw [if_pos (by simpa using h)]; omega
  · rw [if_neg (by simpa using h)]; omega

/-- A power of two below 2^128 (2^277 units) is a finite value. -/
theorem exists_pow (L : Nat) (h : L < 149 + 128) : ∃ r : F32, fIsFinite r = true ∧ fScaled r = 2 ^ L := by
  have hb : ∀ a b, L < a + b → (2 : Nat) ^ L < 2 ^ a * 2 ^ b := fun a b h => by
    rw [← pow_add]; exact Nat.pow_lt_pow_right one_lt_two h
  exact exists_value _ 1 L (by norm_num) (by simp [Int.natAbs_pow]) (by rw [Int.natAbs_pow]; exact hb 149 128 h)

/-- A finite value is a 24-bit significand at an exponent. -/
theorem fMag_significand (x : F32) : ∃ m e, m < 2 ^ 24 ∧ fMag x = m * 2 ^ e := by
  have hf : fFrac x < 2 ^ 23 := by rw [fFrac_eq]; omega
  unfold fMag
  by_cases h : fExpo x = 0
  · exact ⟨fFrac x, 0, by omega, by rw [if_pos h]; simp⟩
  · exact ⟨2 ^ 23 + fFrac x, fExpo x - 1, by omega, by rw [if_neg h]⟩

theorem fMag_lt_of_finite {x : F32} (h : fIsFinite x = true) : fMag x < 2 ^ 149 * 2 ^ 128 := by
  rw [fMag_eq, ← patMag_inf, patMag_lt_iff, ← fIsFinite_iff]; exact h

theorem natAbs_scaled (x : F32) : (fScaled x).natAbs = fMag x := by
  rw [fScaled]; split <;> simp

/-- The distance of neighbouring patterns up to 1.0 is at most 2^125 units (2^-24). -/
theorem patMag_gap {k : Nat} (h : k < 0x3F800000) : patMag (k + 1) ≤ patMag k + 2 ^ 125 := by
  by_cases h1 : k + 1 < 2 ^ 23
  · rw [patMag, patMag, if_pos h1, if_pos (by omega)]; omega
  · by_cases h2 : k < 2 ^ 23
    · have : k = 2 ^ 23 - 1 := by omega
      subst this
      decide +kernel
    · have hd : k / 2 ^ 23 - 1 ≤ 125 := by omega
      have hp : 2 ^ (k / 2 ^ 23 - 1) ≤ 2 ^ 125 := Nat.pow_le_pow_right (by norm_num) hd
      rw [patMag, patMag, if_neg h1, if_neg h2]
      by_cases h3 : k % 2 ^ 23 = 2 ^ 23 - 1
      · have e1 : (k + 1) % 2 ^ 23 = 0 := by omega
        have e2 : (k + 1) / 2 ^ 23 - 1 = k / 2 ^ 23 - 1 + 1 := by omega
        rw [e1, e2, h3, pow_succ 2 (k / 2 ^ 23 - 1)]
        clear e1 e2 h1 h2 h3 hd
        generalize 2 ^ (k / 2 ^ 23 - 1) = u at *
        omega
      · have e1 : (k + 1) % 2 ^ 23 = k % 2 ^ 23 + 1 := by omega
        have e2 : (k + 1) / 2 ^ 23 = k / 2 ^ 23 := by omega
        rw [e1, e2, ← add_assoc, add_mul, one_mul]
        omega

/-! ## Bounds of the operations -/

theorem fLe_finite {lo x hi : F32} (h1 : fLe lo x = true) (h2 : fLe x hi = true) (hlo : fIsFinite lo = true)
    (hhi : fIsFinite hi = true) : fIsFinite x = true :=
  finite_of_between hlo hhi ((fLe_iff _ _).1 h1).2.2 ((fLe_iff _ _).1 h2).2.2

theorem fAdd_between {x y lo hi : F32} (hx : fIsFinite x = true) (hy : fIsFinite y = true) (hlo : fIsNaN lo = false)
    (hhi : fIsNaN hi = false) (h1 : fScaled lo ≤ fScaled x + fScaled y) (h2 : fScaled x + fScaled y ≤ fScaled hi) :
    fLe lo (fAdd x y) = true ∧ fLe (fAdd x y) hi = true := by
  obtain ⟨a, b, c⟩ := fAdd_spec hx hy
  exact ⟨(fLe_iff _ _).2 ⟨hlo, a, c _ hlo h1⟩, (fLe_iff _ _).2 ⟨a, hhi, b _ hhi h2⟩⟩

theorem fSub_between {x y lo hi : F32} (hx : fIsFinite x = true) (hy : fIsFinite y = true) (hlo : fIsNaN lo = false)
    (hhi : fIsNaN hi = false) (h1 : fScaled lo ≤ fScaled x - fScaled y) (h2 : fScaled x - fScaled y ≤ fScaled hi) :
    fLe lo (fSub x y) = true ∧ fLe (fSub x y) hi = true := by
  obtain ⟨a, b, c⟩ := fSub_spec hx hy
  exact ⟨(fLe_iff _ _).2 ⟨hlo, a, c _ hlo h1⟩, (fLe_iff _ _).2 ⟨a, hhi, b _ hhi h2⟩⟩

theorem fMul_between {x y lo hi : F32} (hx : fIsFinite x = true) (hy : fIsFinite y = true) (hlo : fIsNaN lo = false)
    (hhi : fIsNaN hi = false) (h1 : fScaled lo * 2 ^ 149 ≤ fScaled x * fScaled y)
    (h2 : fScaled x * fScaled y ≤ fScaled hi * 2 ^ 149) : fLe lo (fMul x y) = true ∧ fLe (fMul x y) hi = true := by
  obtain ⟨a, b, c⟩ := fMul_spec hx hy
  exact ⟨(fLe_iff _ _).2 ⟨hlo, a, c _ hlo h1⟩, (fLe_iff _ _).2 ⟨a, hhi, b _ hhi h2⟩⟩

theorem fDiv_between {x y lo hi : F32} (hx : fIsFinite x = true) (hy : fIsFinite y = true) (h0 : 0 < fScaled y)
    (hlo : fIsNaN lo = false) (hhi : fIsNaN hi = false) (h1 : fScaled lo * fScaled y ≤ fScaled x * 2 ^ 149)
    (h2 : fScaled x * 2 ^ 149 ≤ fScaled hi * fScaled y) : fLe lo (fDiv x y) = true ∧ fLe (fDiv x y) hi = true := by
  obtain ⟨a, b, c⟩ := fDiv_spec hx hy h0
  exact ⟨(fLe_iff _ _).2 ⟨hlo, a, c _ hlo h1⟩, (fLe_iff _ _).2 ⟨a, hhi, b _ hhi h2⟩⟩

/-- A difference that is a value is computed exactly. -/
theorem fSub_exact {x y r : F32} (hx : fIsFinite x = true) (hy : fIsFinite y = true) (hr : fIsFinite r = true)
    (h : fScaled r = fScaled x - fScaled y) : fScaled (fSub x y) = fScaled x - fScaled y := by
  obtain ⟨_, b, c⟩ := fSub_spec hx hy
  have h1 := b r (not_nan_of_finite hr) h.ge
  have h2 := c r (not_nan_of_finite hr) h.le
  omega

/-- A product that is a value is computed exactly. -/
theorem fMul_exact {x y r : F32} (hx : fIsFinite x = true) (hy : fIsFinite y = true) (hr : fIsFinite r = true)
    (h : fScaled r * 2 ^ 149 = fScaled x * fScaled y) : fScaled (fMul x y) = fScaled r := by
  obtain ⟨_, b, c⟩ := fMul_spec hx hy
  exact le_antisymm (b r (not_nan_of_finite hr) h.ge) (c r (not_nan_of_finite hr) h.le)

/-- The value of a word is +0.0 or -0.0, or its sign is the sign of its value. -/
theorem fSign_of_pos {x : F32} (h : 0 < fScaled x) : fSign x = false := by
  rw [fScaled] at h
  by_contra hs
  rw [Bool.not_eq_false] at hs
  rw [hs] at h
  simp at h
  omega

theorem fSign_of_neg {x : F32} (h : fScaled x < 0) : fSign x = true := by
  rw [fScaled] at h
  by_contra hs
  rw [Bool.not_eq_true] at hs
  rw [hs] at h
  simp at h
  omega

/-! ## Monotone products and quotients of values that are not negative -/

/-- Rounding depends on the ratio alone. -/
theorem roundMag_scale (num den k : Nat) (hk : 0 < k) : roundMag (num * k) (den * k) = roundMag num den := by
  have h1 : num * k / (den * k) = num / den := Nat.mul_div_mul_right _ _ hk
  rw [roundMag_eq, roundMag_eq, h1]
  congr 2
  have h2 : den * k * 2 ^ (Nat.log2 (num / den) - 23) = den * 2 ^ (Nat.log2 (num / den) - 23) * k := by ring
  rw [h2]
  generalize den * 2 ^ (Nat.log2 (num / den) - 23) = unit
  unfold nearestUnits
  rw [Nat.mul_div_mul_right _ _ hk, Nat.mul_mod_mul_right]
  have a : unit * k < 2 * (num % unit * k) ↔ unit < 2 * (num % unit) := by
    rw [← Nat.mul_assoc]; exact Nat.mul_lt_mul_right hk
  have b : 2 * (num % unit * k) = unit * k ↔ 2 * (num % unit) = unit := by
    rw [← Nat.mul_assoc]; exact Nat.mul_left_inj hk.ne'
  simp only [a, b]

/-- Rounding is monotone in the ratio. -/
theorem roundMag_ratio {n d n' d' : Nat} (hd : 0 < d) (hd' : 0 < d') (h : n * d' ≤ n' * d) :
    roundMag n d ≤ roundMag n' d' := by
  rw [← roundMag_scale n d d' hd', ← roundMag_scale n' d' d hd, Nat.mul_comm d' d]
  exact roundMag_mono _ h

theorem fScaled_nonneg {x : F32} (h : fSign x = false) : fScaled x = fMag x := by rw [fScaled, h]; simp

/-- A product of values that are not negative grows with its first factor. -/
theorem fMul_mono {x x' y : F32} (hx : fIsFinite x = true) (hx' : fIsFinite x' = true) (hy : fIsFinite y = true)
    (sx : fSign x = false) (sx' : fSign x' = false) (sy : fSign y = false) (h : fScaled x ≤ fScaled x') :
    fLe (fMul x y) (fMul x' y) = true := by
  rw [fScaled_nonneg sx, fScaled_nonneg sx'] at h
  rw [fMul_finite hx hy, fMul_finite hx' hy, sx, sx', sy, fLe_iff]
  have a := roundMag_le_inf (fMag x * fMag y) (2 ^ 149)
  have b := roundMag_le_inf (fMag x' * fMag y) (2 ^ 149)
  refine ⟨fPack_not_nan _ a, fPack_not_nan _ b, ?_⟩
  rw [fScaled_fPack _ (by omega), fScaled_fPack _ (by omega)]
  simp only [bne_self_eq_false, Bool.false_eq_true, if_false]
  exact_mod_cast patMag_le_iff.2 (roundMag_mono _ (Nat.mul_le_mul_right _ (by exact_mod_cast h)))

/-- A quotient of positive values falls as its divisor grows. -/
theorem fDiv_anti {x y y' : F32} (hx : fIsFinite x = true) (hy : fIsFinite y = true) (hy' : fIsFinite y' = true)
    (sx : fSign x = false) (h0 : 0 < fScaled y) (h : fScaled y ≤ fScaled y') :
    fLe (fDiv x y') (fDiv x y) = true := by
  have sy := fSign_of_pos h0
  have sy' := fSign_of_pos (h0.trans_le h)
  have p := fMag_pos_of_scaled h0.ne'
  have h0' := h0.trans_le h
  have p' := fMag_pos_of_scaled h0'.ne'
  rw [fScaled_nonneg sy, fScaled_nonneg sy'] at h
  rw [fDiv_finite hx hy h0.ne', fDiv_finite hx hy' h0'.ne', sx, sy, sy', fLe_iff]
  have a := roundMag_le_inf (fMag x * 2 ^ 149) (fMag y)
  have b := roundMag_le_inf (fMag x * 2 ^ 149) (fMag y')
  refine ⟨fPack_not_nan _ b, fPack_not_nan _ a, ?_⟩
  rw [fScaled_fPack _ (by omega), fScaled_fPack _ (by omega)]
  simp only [bne_self_eq_false, Bool.false_eq_true, if_false]
  exact_mod_cast patMag_le_iff.2 (roundMag_ratio p' p (Nat.mul_le_mul_left _ (by exact_mod_cast h)))

/-! ## Floor -/

/-- Below 2^23 in magnitude `fFloor` is the exact floor. -/
theorem fFloor_small {x : F32} (h : fMag x < 2 ^ 172) :
    fIsFinite (fFloor x) = true ∧ fScaled (fFloor x) = fScaled x / 2 ^ 149 * 2 ^ 149 := by
  have hf : fIsFinite x = true := by
    rw [fIsFinite_iff, ← patMag_lt_iff, ← fMag_eq, patMag_inf]
    exact h.trans (by norm_num)
  have hb : (fScaled x).natAbs < 2 ^ 172 := by rw [natAbs_scaled]; exact h
  have hq : (fScaled x / 2 ^ 149).natAbs ≤ 2 ^ 23 := by omega
  obtain ⟨k, hk⟩ := exists_pattern (fScaled x / 2 ^ 149).natAbs 149 (by omega)
  have hkl : k < 0x7F800000 := by
    rw [← patMag_lt_iff, hk, patMag_inf]
    exact lt_of_le_of_lt (Nat.mul_le_mul_right _ hq) (by norm_num)
  have hr : roundMag ((fScaled x / 2 ^ 149).natAbs * 2 ^ 149) 1 = k := by
    have := roundMag_patMag k 1 hkl.le one_pos
    rwa [mul_one, hk] at this
  have hu : fFloor x = fPack (fSign x) k := by
    rw [fFloor, not_nan_of_finite hf, if_neg (by decide), if_neg (by omega), hr]
  rw [hu]
  refine ⟨fPack_finite _ hkl, ?_⟩
  rw [fScaled_fPack _ (by omega), hk]
  cases hs : fSign x
  · have h0 : 0 ≤ fScaled x := by rw [fScaled_nonneg hs]; exact Int.natCast_nonneg _
    simp only [Bool.false_eq_true, if_false]
    push_cast
    rw [abs_of_nonneg (Int.ediv_nonneg h0 (by norm_num))]
  · have h0 : fScaled x ≤ 0 := by rw [fScaled, hs]; simp
    have h1 : fScaled x / 2 ^ 149 ≤ 0 := by omega
    simp only [if_true]
    generalize fScaled x / 2 ^ 149 = q at *
    rw [Nat.cast_mul, Int.natCast_natAbs, abs_of_nonpos h1]
    push_cast
    ring

theorem fFloor_large {x : F32} (hx : fIsNaN x = false) (h : 2 ^ 172 ≤ fMag x) : fFloor x = x := by
  rw [fFloor, hx, if_neg (by decide), if_pos h]

end Sys2Proof.Machine
end

