-- ==== Sys2Proof/Laws/Signal.lean ====
section
/-! SUPPORT. What the sample half of a tick can do: the frame of every operation of the pipeline, and the ranges its values
stay in. -/

namespace Sys2Proof.Machine

-- One theorem at a time: many at once ask for more threads than the memory limit of the check leaves room for.
set_option Elab.async false

/-! ## Frames -/

theorem oscStep_off {i : Fin 3} {dt : F32} {s : State} (h : (s.cfgActive.osc[i]).en = false) :
    oscStep i dt s = (fZero, s) := by
  unfold oscStep; rw [if_neg (by rw [h]; decide)]

theorem oscStep_on {i : Fin 3} {dt : F32} {s : State} (h : (s.cfgActive.osc[i]).en = true) : oscStep i dt s =
    (fMul (waveAt (s.cfgActive.osc[i]).wave (nextPhase s.oscPhase[i] dt (s.cfgActive.osc[i]).fmult))
        (s.cfgActive.osc[i]).gain,
      { s with oscPhase := s.oscPhase.set i (nextPhase s.oscPhase[i] dt (s.cfgActive.osc[i]).fmult) }) := by
  unfold oscStep; rw [if_pos h]

theorem oscStep_frame (i : Fin 3) (dt : F32) (s : State) :
    (oscStep i dt s).2 = { s with oscPhase := (oscStep i dt s).2.oscPhase } := by
  cases h : (s.cfgActive.osc[i]).en
  · rw [oscStep_off h]
  · rw [oscStep_on h]

theorem mixOscillators_frame (dt : F32) (s : State) :
    (mixOscillators dt s).2 = { s with oscPhase := (mixOscillators dt s).2.oscPhase } := by
  unfold mixOscillators
  dsimp only
  rw [oscStep_frame, oscStep_frame 1, oscStep_frame 0]

theorem envStep_frame (s : State) :
    envStep s = { s with envValue := (envStep s).envValue, envStage := (envStep s).envStage } := by
  unfold envStep
  split
  · rfl
  · unfold envStageAttack; dsimp only; split <;> rfl
  · unfold envStageDecay; dsimp only; split <;> rfl
  · rfl
  · unfold envStageRelease; dsimp only; split <;> rfl

theorem filtSampleWith_frame (tan : F32 → F32) (x e : F32) (s : State) : (filtSampleWith tan x e s).2 =
    { s with filtFc := smoothed s.filtFc (filtTarget s.cfgActive.filt e), filtS := (filtSampleWith tan x e s).2.filtS } := by
  rfl

theorem filterStage_frame (tan : F32 → F32) (x e : F32) (s : State) : (filterStage tan x e s).2 =
    { s with filtFc := (filterStage tan x e s).2.filtFc, filtS := (filterStage tan x e s).2.filtS } := by
  unfold filterStage
  split <;> rfl

/-- The sample that SAMPLE emits. -/
def emittedSample (tan : F32 → F32) (dt : F32) (s : State) : F32 :=
  let m := mixOscillators dt s
  let s1 := envStep m.2
  fClamp (filterStage tan (boostChain s1.cfgActive.boost (fMul m.1 s1.envValue)) s1.envValue s1).1 fNegOne fOne

theorem envStep_at_off {s : State} (h : s.envStage = .off) : envStep s = s := by
  unfold envStep; rw [h]; rfl

theorem envStep_at_attack {s : State} (h : s.envStage = .attack) : envStep s = envStageAttack s := by
  unfold envStep; rw [h]

theorem envStep_at_decay {s : State} (h : s.envStage = .decay) : envStep s = envStageDecay s := by
  unfold envStep; rw [h]

theorem envStep_at_sustain {s : State} (h : s.envStage = .sustain) : envStep s = s := by
  unfold envStep; rw [h]; rfl

theorem envStep_at_release {s : State} (h : s.envStage = .release) : envStep s = envStageRelease s := by
  unfold envStep; rw [h]

/-- The envelope step neither looks at the phases nor moves them. -/
theorem envStep_phase (s : State) (p : Vector F32 3) :
    envStep { s with oscPhase := p } = { envStep s with oscPhase := p } := by
  have hs : ∀ st : EnvStage, st = .off ∨ st = .attack ∨ st = .decay ∨ st = .sustain ∨ st = .release := by
    intro st; cases st <;> simp
  rcases hs s.envStage with h | h | h | h | h
  · rw [envStep_at_off h, envStep_at_off (by exact h)]
  · rw [envStep_at_attack h, envStep_at_attack (by exact h)]
    unfold envStageAttack; dsimp only; split <;> rfl
  · rw [envStep_at_decay h, envStep_at_decay (by exact h)]
    unfold envStageDecay; dsimp only; split <;> rfl
  · rw [envStep_at_sustain h, envStep_at_sustain (by exact h)]
  · rw [envStep_at_release h, envStep_at_release (by exact h)]
    unfold envStageRelease; dsimp only; split <;> rfl

/-- An oscillator step neither looks at `result` nor writes it. -/
theorem oscStep_result (i : Fin 3) (dt : F32) (r : Result) (s : State) :
    oscStep i dt { s with result := r } = ((oscStep i dt s).1, { (oscStep i dt s).2 with result := r }) := by
  cases h : (s.cfgActive.osc[i]).en
  · rw [oscStep_off h, oscStep_off (by exact h)]
  · rw [oscStep_on h, oscStep_on (by exact h)]

/-- The envelope step neither looks at `result` nor writes it. -/
theorem envStep_result (r : Result) (s : State) : envStep { s with result := r } = { envStep s with result := r } := by
  have hs : ∀ st : EnvStage, st = .off ∨ st = .attack ∨ st = .decay ∨ st = .sustain ∨ st = .release := by
    intro st; cases st <;> simp
  rcases hs s.envStage with h | h | h | h | h
  · rw [envStep_at_off h, envStep_at_off (by exact h)]
  · rw [envStep_at_attack h, envStep_at_attack (by exact h)]
    unfold envStageAttack; dsimp only; split <;> rfl
  · rw [envStep_at_decay h, envStep_at_decay (by exact h)]
    unfold envStageDecay; dsimp only; split <;> rfl
  · rw [envStep_at_sustain h, envStep_at_sustain (by exact h)]
  · rw [envStep_at_release h, envStep_at_release (by exact h)]
    unfold envStageRelease; dsimp only; split <;> rfl

/-- One sample: the phases, the envelope, the filter and one more output sample. -/
theorem sampleWith_frame (tan : F32 → F32) (dt : F32) (s : State) : sampleWith tan dt s = { s with
    oscPhase := (mixOscillators dt s).2.oscPhase
    envValue := (envStep s).envValue, envStage := (envStep s).envStage
    filtFc := (sampleWith tan dt s).filtFc, filtS := (sampleWith tan dt s).filtS
    out := s.out ++ [emittedSample tan dt s] } := by
  unfold sampleWith emit emittedSample
  dsimp only
  rw [filterStage_frame, envStep_frame (mixOscillators dt s).2, mixOscillators_frame]
  rw [envStep_phase]

/-- A block of samples: the phases, the envelope, the filter and as many more output samples as it has. -/
theorem samplesWith_frame (tan : F32 → F32) (dt : F32) (n : Nat) (s : State) :
    ∃ ph v st fc fs xs, samplesWith tan dt n s = { s with
      oscPhase := ph, envValue := v, envStage := st, filtFc := fc, filtS := fs, out := s.out ++ xs } ∧ xs.length = n := by
  induction n generalizing s with
  | zero => exact ⟨_, _, _, _, _, [], by rw [List.append_nil]; rfl, rfl⟩
  | succ n ih =>
    obtain ⟨ph, v, st, fc, fs, xs, h, hl⟩ := ih (sampleWith tan dt s)
    refine ⟨ph, v, st, fc, fs, emittedSample tan dt s :: xs, ?_, by simp [hl]⟩
    rw [samplesWith, h, sampleWith_frame]
    simp

/-- What every sample keeps, a block keeps. -/
theorem samplesWith_keeps (P : State → Prop) {tan : F32 → F32} {dt : F32} (h : ∀ s, P s → P (sampleWith tan dt s))
    (n : Nat) {s : State} (hs : P s) : P (samplesWith tan dt n s) := by
  induction n generalizing s with
  | zero => exact hs
  | succ n ih => exact ih (h s hs)

/-- A tick: what it leaves alone, what it settles, and one block more of output. -/
theorem tickWith_frame (n : Nat) (tan : F32 → F32) (now : U32) (s : State) :
    ∃ ph v st fc fs xs, tickWith n tan now s = { tickControl now s with
      oscPhase := ph, envValue := v, envStage := st, filtFc := fc, filtS := fs, out := s.out ++ xs } ∧ xs.length = n := by
  obtain ⟨ph, v, st, fc, fs, xs, h, hl⟩ := samplesWith_frame tan (dtOf (tickControl now s).voiceNote) n (tickControl now s)
  refine ⟨ph, v, st, fc, fs, xs, ?_, hl⟩
  rw [tickWith, h]
  have : (tickControl now s).out = s.out := by rw [tickControl_frame]
  rw [this]

end Sys2Proof.Machine
end

