-- ==== Sys2Proof/Laws/Ranges.lean ====
section
/-! SUPPORT. The ranges the values of the pipeline stay in: phases, waveforms, oscillator outputs, envelope, saturators and
cutoff. -/

namespace Sys2Proof.Machine

-- One theorem at a time: many at once ask for more threads than the memory limit of the check leaves room for.
set_option Elab.async false

/-! ## Constants in units of 2^-149 -/

theorem scaled_zero : fScaled fZero = 0 := fScaled_zero
theorem scaled_half : fScaled fHalf = 2 ^ 148 := by decide +kernel
theorem scaled_one : fScaled fOne = 2 ^ 149 := by decide +kernel
theorem scaled_negOne : fScaled fNegOne = -2 ^ 149 := by decide +kernel
theorem scaled_two : fScaled fTwo = 2 * 2 ^ 149 := by decide +kernel
theorem scaled_three : fScaled fThree = 3 * 2 ^ 149 := by decide +kernel
theorem scaled_satLim : fScaled satLim = 3 * 2 ^ 149 := by decide +kernel
theorem scaled_four : fScaled fFour = 4 * 2 ^ 149 := by decide +kernel
theorem scaled_eight : fScaled fEight = 8 * 2 ^ 149 := by decide +kernel
theorem scaled_negEight : fScaled fNegEight = -(8 * 2 ^ 149) := by decide +kernel
theorem scaled_nine : fScaled fNine = 9 * 2 ^ 149 := by decide +kernel
theorem scaled_twentySeven : fScaled fTwentySeven = 27 * 2 ^ 149 := by decide +kernel
theorem scaled_sixty : fScaled fSixty = 60 * 2 ^ 149 := by decide +kernel
theorem scaled_sixtyFour : fScaled fSixtyFour = 64 * 2 ^ 149 := by decide +kernel
theorem scaled_256 : fScaled f256 = 256 * 2 ^ 149 := by decide +kernel
theorem scaled_neg256 : fScaled fNeg256 = -(256 * 2 ^ 149) := by decide +kernel
theorem scaled_fcMin : fScaled fcMinF = 20 * 2 ^ 149 := by decide +kernel
theorem scaled_fcMax : fScaled fcMaxF = 20000 * 2 ^ 149 := by decide +kernel
theorem scaled_sr : fScaled srF = 44100 * 2 ^ 149 := by decide +kernel

/-! ## Ranges -/

/-- `lo <= x <= hi`, none of them a NaN. -/
abbrev between (lo x hi : F32) : Prop := fLe lo x = true ∧ fLe x hi = true

theorem between_scaled {lo x hi : F32} (h : between lo x hi) : fScaled lo ≤ fScaled x ∧ fScaled x ≤ fScaled hi :=
  ⟨((fLe_iff _ _).1 h.1).2.2, ((fLe_iff _ _).1 h.2).2.2⟩

theorem between_finite {lo x hi : F32} (h : between lo x hi) (hlo : fIsFinite lo = true) (hhi : fIsFinite hi = true) :
    fIsFinite x = true := fLe_finite h.1 h.2 hlo hhi

theorem between_of_scaled {lo x hi : F32} (hlo : fIsNaN lo = false) (hhi : fIsNaN hi = false) (hx : fIsNaN x = false)
    (h1 : fScaled lo ≤ fScaled x) (h2 : fScaled x ≤ fScaled hi) : between lo x hi :=
  ⟨(fLe_iff _ _).2 ⟨hlo, hx, h1⟩, (fLe_iff _ _).2 ⟨hx, hhi, h2⟩⟩

theorem finiteIn_between {lo hi x : F32} (h : finiteIn lo hi x = true) : fIsFinite x = true ∧ between lo x hi := by
  simp only [finiteIn, Bool.and_eq_true] at h
  exact ⟨h.1.1, h.1.2, h.2⟩

/-! ## Phases -/

theorem phase_scaled {p : F32} (h : inPhaseRange p = true) :
    fIsFinite p = true ∧ fSign p = false ∧ 0 ≤ fScaled p ∧ fScaled p < 2 ^ 149 := by
  rw [inPhaseRange, decide_eq_true_eq] at h
  have hs : fSign p = false := by rw [fSign_eq]; simpa using (by omega : p.toNat < 2 ^ 31)
  have hm : p.toNat % 2 ^ 31 = p.toNat := by omega
  refine ⟨(fIsFinite_iff p).2 (by omega), hs, ?_, ?_⟩
  · rw [fScaled_nonneg hs]; exact Int.natCast_nonneg _
  · have h1 : patMag 0x3F800000 = 2 ^ 149 := by decide +kernel
    have h2 := patMag_lt_iff.2 h
    rw [h1, ← hm, ← fMag_eq] at h2
    rw [fScaled_nonneg hs]
    exact_mod_cast h2

theorem phase_of_scaled {p : F32} (hs : fSign p = false) (h : fScaled p < 2 ^ 149) : inPhaseRange p = true := by
  rw [inPhaseRange, decide_eq_true_eq]
  exact unit_pattern hs (by rw [scaled_one]; exact h)

theorem zero_inPhaseRange : inPhaseRange fZero = true := by decide

/-- `t - floor(t)` before the folds: at least 0 and at most 1.0. -/
theorem fraction_between {t : F32} (ht : fIsFinite t = true) : between fZero (fSub t (fFloor t)) fOne := by
  rcases Nat.lt_or_ge (fMag t) (2 ^ 172) with h | h
  · obtain ⟨hf, hv⟩ := fFloor_small h
    apply fSub_between ht hf (by decide +kernel) (by decide +kernel)
    · rw [scaled_zero, hv]; omega
    · rw [scaled_one, hv]; omega
  · rw [fFloor_large (not_nan_of_finite ht) h]
    apply fSub_between ht ht (by decide +kernel) (by decide +kernel)
    · rw [scaled_zero]; omega
    · rw [scaled_one]; omega

/-- The wrapped phase as R178 writes it: the fraction, or +0.0 where the fraction equals 1.0 or 0.0. -/
theorem wrapPhase_eq (u : F32) : wrapPhase u =
    if fEq (fSub u (fFloor u)) fOne then fZero
    else if fEq (fSub u (fFloor u)) fZero then fZero
    else fSub u (fFloor u) := by
  unfold wrapPhase
  generalize fSub u (fFloor u) = f
  cases h : fEq f fOne
  · simp only [h, Bool.false_eq_true, if_false]
  · simp only [h, if_true, ite_self]

/-- The wrapped phase of a finite value is in [0,1), and not -0.0 (R42, R178). -/
theorem wrapPhase_range {t : F32} (ht : fIsFinite t = true) : inPhaseRange (wrapPhase t) = true := by
  have hb := fraction_between ht
  have hn : fIsNaN (fSub t (fFloor t)) = false := not_nan_of_finite (between_finite hb (by decide) (by decide))
  have hs := between_scaled hb
  rw [scaled_zero, scaled_one] at hs
  unfold wrapPhase
  dsimp only
  by_cases h1 : fEq (fSub t (fFloor t)) fOne = true
  · rw [if_pos h1]; decide +kernel
  · rw [if_neg h1]
    by_cases h0 : fEq (fSub t (fFloor t)) fZero = true
    · rw [if_pos h0]; decide
    · rw [if_neg h0]
      rw [fEq_iff, not_and, not_and] at h0 h1
      have a := h1 hn (by decide)
      have b := h0 hn (by decide)
      rw [scaled_one] at a
      rw [scaled_zero] at b
      exact phase_of_scaled (fSign_of_pos (by omega)) (by omega)

/-- The wrapped phase of a value that is not negative is its fractional part, exactly (R178). -/
theorem wrapPhase_exact {t : F32} (ht : fIsFinite t = true) (h0 : 0 ≤ fScaled t) :
    fScaled (wrapPhase t) = fScaled t % 2 ^ 149 := by
  have hf : fScaled (fSub t (fFloor t)) = fScaled t % 2 ^ 149 := by
    rcases Nat.lt_or_ge (fMag t) (2 ^ 172) with h | h
    · obtain ⟨hfin, hv⟩ := fFloor_small h
      obtain ⟨m, e, hm, he⟩ := fMag_significand t
      have hn : fScaled t = ((m * 2 ^ e : Nat) : Int) := by rw [← he, ← natAbs_scaled]; omega
      have hr : fScaled t % 2 ^ 149 = ((m * 2 ^ e % 2 ^ 149 : Nat) : Int) := by rw [hn]; norm_cast
      have hlt : m * 2 ^ e % 2 ^ 149 < 2 ^ 149 := Nat.mod_lt _ (by norm_num)
      have hx : ∃ r : F32, fIsFinite r = true ∧ fScaled r = fScaled t % 2 ^ 149 := by
        rw [hr]
        rcases Nat.lt_or_ge e 149 with hlo | hhi
        · have hsplit : (2 : Nat) ^ 149 = 2 ^ (149 - e) * 2 ^ e := by rw [← pow_add]; congr 1; omega
          refine exists_value _ (m % 2 ^ (149 - e)) e ((Nat.mod_le _ _).trans_lt hm) ?_ ?_
          · rw [Int.natAbs_natCast, hsplit, Nat.mul_mod_mul_right]
          · rw [Int.natAbs_natCast]; exact hlt.trans (by norm_num)
        · have hz : m * 2 ^ e % 2 ^ 149 = 0 :=
            Nat.mod_eq_zero_of_dvd (Dvd.dvd.mul_left (pow_dvd_pow 2 hhi) m)
          exact ⟨fZero, by decide, by rw [hz, scaled_zero]; rfl⟩
      obtain ⟨r, hrf, hrv⟩ := hx
      have hd : fScaled t % 2 ^ 149 = fScaled t - fScaled (fFloor t) := by rw [hv]; omega
      rw [fSub_exact ht hfin hrf (by rw [hrv, hd]), hd]
    · rw [fFloor_large (not_nan_of_finite ht) h]
      have hz := fSub_exact ht ht (r := fZero) (by decide) (by rw [scaled_zero]; omega)
      rw [hz]
      obtain ⟨m, e, hm, he⟩ := fMag_significand t
      have hn : fScaled t = ((m * 2 ^ e : Nat) : Int) := by rw [← he, ← natAbs_scaled]; omega
      have he149 : 149 ≤ e := by
        by_contra hlt
        have : m * 2 ^ e < 2 ^ 24 * 2 ^ 148 :=
          Nat.mul_lt_mul_of_lt_of_le hm (Nat.pow_le_pow_right (by norm_num) (by omega)) (by norm_num)
        rw [← he] at this
        have e2 : (2 : Nat) ^ 24 * 2 ^ 148 = 2 ^ 172 := by norm_num
        omega
      have hdv : m * 2 ^ e % 2 ^ 149 = 0 := Nat.mod_eq_zero_of_dvd (Dvd.dvd.mul_left (pow_dvd_pow 2 he149) m)
      have hr : fScaled t % 2 ^ 149 = ((m * 2 ^ e % 2 ^ 149 : Nat) : Int) := by rw [hn]; norm_cast
      rw [hr, hdv]
      simp
  have hb := fraction_between ht
  have hn : fIsNaN (fSub t (fFloor t)) = false := not_nan_of_finite (between_finite hb (by decide) (by decide))
  have hlt : fScaled t % 2 ^ 149 < 2 ^ 149 := Int.emod_lt_of_pos _ (by norm_num)
  have h1 : ¬ fEq (fSub t (fFloor t)) fOne = true := by
    rw [fEq_iff, hf, scaled_one]; omega
  unfold wrapPhase
  dsimp only
  rw [if_neg h1]
  by_cases hz : fEq (fSub t (fFloor t)) fZero = true
  · rw [if_pos hz, scaled_zero, ← hf]
    exact (((fEq_iff _ _).1 hz).2.2.trans scaled_zero).symm
  · rw [if_neg hz, hf]

/-- The phase increment of a pitch, or of no note, is between 0 and 1. -/
theorem dtOf_between {n : U8} (h : n.toNat < 128 ∨ n = 255) : between fZero (dtOf n) fOne := by
  have key : ∀ k : Fin 128, between fZero (dtOf (BitVec.ofNat 8 k.val)) fOne := by decide +kernel
  rcases h with h | rfl
  · have := key ⟨n.toNat, h⟩
    simpa using this
  · decide +kernel

/-- The advanced phase is finite: a phase in [0,1), an increment in [0,1], a multiplier in [-256, 256]. -/
theorem nextPhase_range {p dt k : F32} (hp : inPhaseRange p = true) (hd : between fZero dt fOne)
    (hk : between fNeg256 k f256) : inPhaseRange (nextPhase p dt k) = true := by
  obtain ⟨pf, _, p0, p1⟩ := phase_scaled hp
  have df := between_finite hd (by decide) (by decide)
  have kf := between_finite hk (by decide) (by decide)
  have hd' := between_scaled hd
  have hk' := between_scaled hk
  rw [scaled_zero, scaled_one] at hd'
  rw [scaled_256, scaled_neg256] at hk'
  have hm : between fNeg256 (fMul dt k) f256 := by
    apply fMul_between df kf (by decide) (by decide)
    · rw [scaled_neg256]; nlinarith
    · rw [scaled_256]; nlinarith
  have hm' := between_scaled hm
  rw [scaled_256, scaled_neg256] at hm'
  have mf := between_finite hm (by decide) (by decide)
  apply wrapPhase_range
  have ha : between 0xC4000000#32 (fAdd p (fMul dt k)) 0x44000000#32 := by
    have e1 : fScaled 0xC4000000#32 = -(512 * 2 ^ 149) := by decide +kernel
    have e2 : fScaled 0x44000000#32 = 512 * 2 ^ 149 := by decide +kernel
    apply fAdd_between pf mf (by decide) (by decide)
    · rw [e1]; omega
    · rw [e2]; omega
  exact between_finite ha (by decide) (by decide)

/-! ## Waveforms -/

/-- The product of a phase and 256 is exact. -/
theorem phase256 {p : F32} (h : inPhaseRange p = true) :
    fIsFinite (fMul p f256) = true ∧ fScaled (fMul p f256) = fScaled p * 256 := by
  obtain ⟨pf, ps, p0, p1⟩ := phase_scaled h
  obtain ⟨m, e, hm, he⟩ := fMag_significand p
  have hn : fScaled p = ((m * 2 ^ e : Nat) : Int) := by rw [fScaled_nonneg ps, he]
  have hv : fScaled p * 256 = ((m * 2 ^ (e + 8) : Nat) : Int) := by rw [hn, pow_add]; push_cast; ring
  obtain ⟨r, hr, hrv⟩ := exists_value (fScaled p * 256) m (e + 8) hm (by rw [hv, Int.natAbs_natCast]) (by omega)
  have hx := fMul_exact pf (by decide : fIsFinite f256 = true) hr (by rw [hrv, scaled_256]; ring)
  have hb : between fZero (fMul p f256) f256 := by
    apply fMul_between pf (by decide) (by decide) (by decide)
    · rw [scaled_zero, scaled_256]; nlinarith
    · rw [scaled_256]; nlinarith
  exact ⟨between_finite hb (by decide) (by decide), by rw [hx, hrv]⟩

/-- The table index of a phase is the whole part of 256 times the phase (R173). -/
theorem sineIndex_eq {p : F32} (h : inPhaseRange p = true) : sineIndex p = fScaled p * 256 / 2 ^ 149 := by
  obtain ⟨pf, ps, p0, p1⟩ := phase_scaled h
  obtain ⟨hf, hv⟩ := phase256 h
  have hm : fMag (fMul p f256) < 2 ^ 172 := by
    rw [← natAbs_scaled, hv]
    omega
  rw [sineIndex, fToInt, (fFloor_small hm).2, hv]
  omega

/-- A phase in [k/256, (k+1)/256) reads entry `k` (R173). -/
theorem waveSine_at {k : Nat} {y p : F32} (hy : sineTable[k]? = some y) (h : inPhaseRange p = true)
    (h1 : (k : Int) * 2 ^ 149 ≤ fScaled p * 256) (h2 : fScaled p * 256 < ((k : Int) + 1) * 2 ^ 149) :
    waveSine p = y := by
  have hi : sineIndex p = k := by rw [sineIndex_eq h]; omega
  unfold waveSine
  rw [hi, if_neg (by omega), Int.toNat_natCast, hy]
  rfl

theorem sineTable_between : ∀ y ∈ sineTable, between fNegOne y fOne := by
  have h : sineTable.all (fun y => fLe fNegOne y && fLe y fOne) = true := by decide +kernel
  intro y hy
  simpa using List.all_eq_true.1 h y hy

theorem waveSine_between {p : F32} (h : inPhaseRange p = true) : between fNegOne (waveSine p) fOne := by
  obtain ⟨_, _, p0, p1⟩ := phase_scaled h
  have hl : sineTable.length = 256 := by decide +kernel
  have hk : (fScaled p * 256 / 2 ^ 149).toNat < sineTable.length := by rw [hl]; omega
  obtain ⟨y, hy⟩ : ∃ y, sineTable[(fScaled p * 256 / 2 ^ 149).toNat]? = some y :=
    ⟨_, List.getElem?_eq_getElem hk⟩
  rw [waveSine_at hy h (by omega) (by omega)]
  exact sineTable_between y (List.mem_of_getElem? hy)

theorem waveSaw_between {p : F32} (h : inPhaseRange p = true) : between fNegOne (waveSaw p) fOne := by
  obtain ⟨pf, _, p0, p1⟩ := phase_scaled h
  have hm : between fZero (fMul fTwo p) fTwo := by
    apply fMul_between (by decide) pf (by decide) (by decide)
    · rw [scaled_zero, scaled_two]; nlinarith
    · rw [scaled_two]; nlinarith
  have hm' := between_scaled hm
  rw [scaled_zero, scaled_two] at hm'
  apply fSub_between (between_finite hm (by decide) (by decide)) (by decide) (by decide) (by decide)
  · rw [scaled_one, scaled_negOne]; omega
  · rw [scaled_one]; omega

theorem waveSquare_between (p : F32) : between fNegOne (waveSquare p) fOne := by
  unfold waveSquare
  split <;> decide +kernel

theorem waveTriangle_between {p : F32} (h : inPhaseRange p = true) : between fNegOne (waveTriangle p) fOne := by
  obtain ⟨pf, _, p0, p1⟩ := phase_scaled h
  unfold waveTriangle
  by_cases hl : fLt p fHalf = true
  · rw [if_pos hl]
    have hlt := ((fLt_iff _ _).1 hl).2.2
    rw [scaled_half] at hlt
    have hm : between fZero (fMul fFour p) fTwo := by
      apply fMul_between (by decide) pf (by decide) (by decide)
      · rw [scaled_zero, scaled_four]; nlinarith
      · rw [scaled_two, scaled_four]; nlinarith
    have hm' := between_scaled hm
    rw [scaled_zero, scaled_two] at hm'
    apply fSub_between (between_finite hm (by decide) (by decide)) (by decide) (by decide) (by decide)
    · rw [scaled_one, scaled_negOne]; omega
    · rw [scaled_one]; omega
  · rw [if_neg hl]
    have hge : 2 ^ 148 ≤ fScaled p := by
      by_contra hc
      exact hl ((fLt_iff _ _).2 ⟨not_nan_of_finite pf, by decide, by rw [scaled_half]; omega⟩)
    have hm : between fTwo (fMul fFour p) fFour := by
      apply fMul_between (by decide) pf (by decide) (by decide)
      · rw [scaled_two, scaled_four]; nlinarith
      · rw [scaled_four]; nlinarith
    have hm' := between_scaled hm
    rw [scaled_two, scaled_four] at hm'
    apply fSub_between (by decide) (between_finite hm (by decide) (by decide)) (by decide) (by decide)
    · rw [scaled_three, scaled_negOne]; omega
    · rw [scaled_three, scaled_one]; omega

theorem waveAt_sine (p : F32) : waveAt 0 p = waveSine p := if_pos rfl

theorem waveAt_saw (p : F32) : waveAt 1 p = waveSaw p := by
  rw [waveAt, if_neg (by decide), if_pos rfl]

theorem waveAt_square (p : F32) : waveAt 2 p = waveSquare p := by
  rw [waveAt, if_neg (by decide), if_neg (by decide), if_pos rfl]

theorem waveAt_triangle (p : F32) : waveAt 3 p = waveTriangle p := by
  rw [waveAt, if_neg (by decide), if_neg (by decide), if_neg (by decide)]

/-- Every waveform of a phase in range is in [-1, 1] (R172). -/
theorem waveAt_between (sel : BitVec 2) {p : F32} (h : inPhaseRange p = true) : between fNegOne (waveAt sel p) fOne := by
  unfold waveAt
  split
  · exact waveSine_between h
  · split
    · exact waveSaw_between h
    · split
      · exact waveSquare_between p
      · exact waveTriangle_between h

end Sys2Proof.Machine
end

