-- ==== Sys2Proof/Laws/Pipeline.lean ====
section
/-! SUPPORT. The envelope, the saturators, the cutoff and the whole pipeline: what their values can be. -/

namespace Sys2Proof.Machine

-- One theorem at a time: many at once ask for more threads than the memory limit of the check leaves room for.
set_option Elab.async false

/-! ## Oscillator outputs -/

theorem fAbs_toNat (x : F32) : (fAbs x).toNat = x.toNat % 2 ^ 31 := by
  have : (fAbs x).toNat = x.toNat &&& (2 ^ 31 - 1) := by simp [fAbs, BitVec.toNat_and]
  rw [this, Nat.and_two_pow_sub_one_eq_mod]

theorem fMag_abs (x : F32) : fMag (fAbs x) = fMag x := by
  rw [fMag_eq, fMag_eq, fAbs_toNat, Nat.mod_mod]

theorem fSign_abs (x : F32) : fSign (fAbs x) = false := by
  rw [fSign_eq, fAbs_toNat]
  have : x.toNat % 2 ^ 31 < 2 ^ 31 := Nat.mod_lt _ (by norm_num)
  simpa using this

theorem fScaled_abs (x : F32) : fScaled (fAbs x) = |fScaled x| := by
  rw [fScaled_nonneg (fSign_abs x), fMag_abs, ← natAbs_scaled, Int.natCast_natAbs]

theorem fIsNaN_abs (x : F32) : fIsNaN (fAbs x) = fIsNaN x := by
  rw [Bool.eq_iff_iff, fIsNaN_iff, fIsNaN_iff, fAbs_toNat, Nat.mod_mod]

theorem fIsFinite_abs (x : F32) : fIsFinite (fAbs x) = fIsFinite x := by
  rw [Bool.eq_iff_iff, fIsFinite_iff, fIsFinite_iff, fAbs_toNat, Nat.mod_mod]

/-- A product with a value in [-1, 1] is no larger than the other factor. -/
theorem fMul_unit_abs {w g : F32} (hw : between fNegOne w fOne) (hg : fIsFinite g = true) :
    fLe (fAbs (fMul w g)) (fAbs g) = true := by
  have wf := between_finite hw (by decide) (by decide)
  have hw' := between_scaled hw
  rw [scaled_negOne, scaled_one] at hw'
  have habs : |fScaled w * fScaled g| ≤ |fScaled g| * 2 ^ 149 := by
    rw [abs_mul, mul_comm]
    exact mul_le_mul_of_nonneg_left (abs_le.2 hw') (abs_nonneg _)
  have hb : between (fNeg (fAbs g)) (fMul w g) (fAbs g) := by
    apply fMul_between wf hg
    · rw [fIsNaN_neg, fIsNaN_abs]; exact not_nan_of_finite hg
    · rw [fIsNaN_abs]; exact not_nan_of_finite hg
    · rw [fScaled_neg, fScaled_abs]; have := (abs_le.1 habs).1; omega
    · rw [fScaled_abs]; exact (abs_le.1 habs).2
  have hb' := between_scaled hb
  rw [fScaled_neg, fScaled_abs] at hb'
  have hn := ((fLe_iff _ _).1 hb.2)
  exact (fLe_iff _ _).2 ⟨by rw [fIsNaN_abs]; exact hn.1, hn.2.1, by rw [fScaled_abs, fScaled_abs]; exact abs_le.2 hb'⟩

theorem legalOsc_fmult {c : OscCfg} (h : legalOsc c = true) : between fNeg256 c.fmult f256 := by
  simp only [legalOsc, Bool.and_eq_true] at h
  exact (finiteIn_between h.1).2

theorem legalOsc_gain {c : OscCfg} (h : legalOsc c = true) : fIsFinite c.gain = true ∧ between fNegEight c.gain fEight := by
  simp only [legalOsc, Bool.and_eq_true] at h
  exact finiteIn_between h.2

theorem configOk_osc {s : State} (h : configOk s) (i : Fin 3) : legalOsc (s.cfgActive.osc[i]) = true := by
  simp only [configOk, legal, Bool.and_eq_true] at h
  obtain ⟨⟨⟨⟨⟨h0, h1⟩, h2⟩, _⟩, _⟩, _⟩ := h
  fin_cases i
  · exact h0
  · exact h1
  · exact h2

theorem configOk_env {s : State} (h : configOk s) : legalEnv s.cfgActive.env = true := by
  simp only [configOk, legal, Bool.and_eq_true] at h
  exact h.1.1.2

theorem configOk_boost {s : State} (h : configOk s) : legalBoost s.cfgActive.boost = true := by
  simp only [configOk, legal, Bool.and_eq_true] at h
  exact h.1.2

theorem configOk_filt {s : State} (h : configOk s) : legalFilt s.cfgActive.filt = true := by
  simp only [configOk, legal, Bool.and_eq_true] at h
  exact h.2

theorem oscStep_phasesOk (i : Fin 3) {dt : F32} {s : State} (hc : configOk s) (hp : phasesOk s)
    (hd : between fZero dt fOne) : phasesOk (oscStep i dt s).2 := by
  cases h : (s.cfgActive.osc[i]).en
  · rw [oscStep_off h]; exact hp
  · rw [oscStep_on h]
    intro j
    by_cases hj : (i : Nat) = j
    · have : i = j := Fin.ext hj
      subst this
      show inPhaseRange ((s.oscPhase.set i.val _)[i.val]) = true
      rw [Vector.getElem_set_self]
      exact nextPhase_range (hp i) hd (legalOsc_fmult (configOk_osc hc i))
    · show inPhaseRange ((s.oscPhase.set i.val _)[j.val]) = true
      rw [Vector.getElem_set_ne _ _ hj]
      exact hp j

/-- An oscillator's output is no larger than its gain (R181). -/
theorem oscStep_output (i : Fin 3) {dt : F32} {s : State} (hc : configOk s) (hp : phasesOk s)
    (hd : between fZero dt fOne) : fLe (fAbs (oscStep i dt s).1) (fAbs (s.cfgActive.osc[i]).gain) = true := by
  have hg := (legalOsc_gain (configOk_osc hc i)).1
  cases h : (s.cfgActive.osc[i]).en
  · rw [oscStep_off h]
    show fLe (fAbs fZero) _ = true
    refine (fLe_iff _ _).2 ⟨by decide, by rw [fIsNaN_abs]; exact not_nan_of_finite hg, ?_⟩
    rw [fScaled_abs, fScaled_abs]
    rw [scaled_zero, abs_zero]
    exact abs_nonneg _
  · rw [oscStep_on h]
    exact fMul_unit_abs (waveAt_between _ (nextPhase_range (hp i) hd (legalOsc_fmult (configOk_osc hc i)))) hg

theorem oscStep_between (i : Fin 3) {dt : F32} {s : State} (hc : configOk s) (hp : phasesOk s)
    (hd : between fZero dt fOne) : between fNegEight (oscStep i dt s).1 fEight := by
  have ho := (fLe_iff _ _).1 (oscStep_output i hc hp hd)
  have hg := between_scaled (legalOsc_gain (configOk_osc hc i)).2
  rw [fIsNaN_abs, fScaled_abs, fScaled_abs] at ho
  rw [scaled_negEight, scaled_eight] at hg
  have h1 := abs_le.1 (ho.2.2.trans (abs_le.2 hg))
  exact between_of_scaled (by decide) (by decide) ho.1 (by rw [scaled_negEight]; exact h1.1)
    (by rw [scaled_eight]; exact h1.2)

theorem oscStep_cfg (i : Fin 3) (dt : F32) (s : State) : (oscStep i dt s).2.cfgActive = s.cfgActive := by
  rw [oscStep_frame]

theorem mixOscillators_phasesOk {dt : F32} {s : State} (hc : configOk s) (hp : phasesOk s)
    (hd : between fZero dt fOne) : phasesOk (mixOscillators dt s).2 := by
  have c0 : configOk (oscStep 0 dt s).2 := by rw [configOk, oscStep_cfg]; exact hc
  have c1 : configOk (oscStep 1 dt (oscStep 0 dt s).2).2 := by rw [configOk, oscStep_cfg]; exact c0
  exact oscStep_phasesOk 2 c1 (oscStep_phasesOk 1 c0 (oscStep_phasesOk 0 hc hp hd) hd) hd

/-- The mix of three oscillators lies in [-24, 24] (R234). -/
theorem mixOscillators_between {dt : F32} {s : State} (hc : configOk s) (hp : phasesOk s)
    (hd : between fZero dt fOne) : between 0xC1C00000#32 (mixOscillators dt s).1 0x41C00000#32 := by
  have c0 : configOk (oscStep 0 dt s).2 := by rw [configOk, oscStep_cfg]; exact hc
  have c1 : configOk (oscStep 1 dt (oscStep 0 dt s).2).2 := by rw [configOk, oscStep_cfg]; exact c0
  have p0 := oscStep_phasesOk 0 hc hp hd
  have p1 := oscStep_phasesOk 1 c0 p0 hd
  have a := oscStep_between 0 hc hp hd
  have b := oscStep_between 1 c0 p0 hd
  have c := oscStep_between 2 c1 p1 hd
  have af := between_finite a (by decide) (by decide)
  have bf := between_finite b (by decide) (by decide)
  have cf := between_finite c (by decide) (by decide)
  have a' := between_scaled a
  have b' := between_scaled b
  have c' := between_scaled c
  rw [scaled_negEight, scaled_eight] at a' b' c'
  have e1 : fScaled 0xC1800000#32 = -(16 * 2 ^ 149) := by decide +kernel
  have e2 : fScaled 0x41800000#32 = 16 * 2 ^ 149 := by decide +kernel
  have e3 : fScaled 0xC1C00000#32 = -(24 * 2 ^ 149) := by decide +kernel
  have e4 : fScaled 0x41C00000#32 = 24 * 2 ^ 149 := by decide +kernel
  have ab : between 0xC1800000#32 (fAdd (oscStep 0 dt s).1 (oscStep 1 dt (oscStep 0 dt s).2).1) 0x41800000#32 := by
    apply fAdd_between af bf (by decide) (by decide)
    · rw [e1]; omega
    · rw [e2]; omega
  have ab' := between_scaled ab
  rw [e1, e2] at ab'
  apply fAdd_between (between_finite ab (by decide) (by decide)) cf (by decide) (by decide)
  · rw [e3]; omega
  · rw [e4]; omega

/-! ## Envelope -/

theorem fMax_between {d : F32} (h : between fZero d fSixty) :
    fIsFinite (fMax d envMinDuration) = true ∧ fSign (fMax d envMinDuration) = false ∧
      fScaled envMinDuration ≤ fScaled (fMax d envMinDuration) ∧ fScaled (fMax d envMinDuration) ≤ fScaled fSixty := by
  have hf := between_finite h (by decide) (by decide)
  have h' := between_scaled h
  have e : fScaled envMinDuration ≤ fScaled fSixty := by decide +kernel
  have e0 : 0 < fScaled envMinDuration := by decide +kernel
  unfold fMax
  by_cases hl : fLt d envMinDuration = true
  · rw [if_pos hl]; exact ⟨by decide, by decide, le_refl _, e⟩
  · rw [if_neg hl]
    have hge : fScaled envMinDuration ≤ fScaled d := by
      by_contra hc
      exact hl ((fLt_iff _ _).2 ⟨not_nan_of_finite hf, by decide, by omega⟩)
    exact ⟨hf, fSign_of_pos (by omega), hge, h'.2⟩

/-- The rate of a legal duration, between that of 60 s and that of the minimum (R190, R199). -/
theorem envRate_between {d : F32} (h : between fZero d fSixty) : between 0x34CAE629#32 (envRate d) 0x3CB9C277#32 := by
  obtain ⟨mf, ms, m1, m2⟩ := fMax_between h
  have lo := fMul_mono (y := srF) (by decide : fIsFinite envMinDuration = true) mf (by decide) (by decide) ms (by decide) m1
  have hi := fMul_mono (y := srF) mf (by decide : fIsFinite fSixty = true) (by decide) ms (by decide) (by decide) m2
  have c1 : fIsFinite (fMul envMinDuration srF) = true := by decide +kernel
  have c2 : fIsFinite (fMul fSixty srF) = true := by decide +kernel
  have c3 : 0 < fScaled (fMul envMinDuration srF) := by decide +kernel
  have xf : fIsFinite (fMul (fMax d envMinDuration) srF) = true := fLe_finite lo hi c1 c2
  have lo' := ((fLe_iff _ _).1 lo).2.2
  have hi' := ((fLe_iff _ _).1 hi).2.2
  have r1 := fDiv_anti (x := fOne) (by decide) xf c2 (by decide) (c3.trans_le lo') hi'
  have r2 := fDiv_anti (x := fOne) (by decide) c1 xf (by decide) c3 lo'
  have k1 : fDiv fOne (fMul fSixty srF) = 0x34CAE629#32 := by decide +kernel
  have k2 : fDiv fOne (fMul envMinDuration srF) = 0x3CB9C277#32 := by decide +kernel
  rw [k1] at r1
  rw [k2] at r2
  exact ⟨r1, r2⟩

theorem rate_unit {r : F32} (h : between 0x34CAE629#32 r 0x3CB9C277#32) : between fZero r fOne := by
  have h' := between_scaled h
  have e1 : 0 < fScaled 0x34CAE629#32 := by decide +kernel
  have e2 : fScaled 0x3CB9C277#32 ≤ fScaled fOne := by decide +kernel
  exact between_of_scaled (by decide) (by decide) (not_nan_of_finite (between_finite h (by decide) (by decide)))
    (by rw [scaled_zero]; omega) (by omega)

theorem legalEnv_between {e : EnvCfg} (h : legalEnv e = true) : between fZero e.attack fSixty ∧
    between fZero e.decay fSixty ∧ between fZero e.sustain fOne ∧ between fZero e.release fSixty := by
  simp only [legalEnv, Bool.and_eq_true] at h
  exact ⟨(finiteIn_between h.1.1.1).2, (finiteIn_between h.1.1.2).2, (finiteIn_between h.1.2).2, (finiteIn_between h.2).2⟩

/-- Whether rates and sustain level are in [0, 1]: what ENV_SET_RATES leaves for a legal configuration. -/
abbrev ratesOk (s : State) : Prop :=
  between fZero s.envSus fOne ∧ between fZero s.envArate fOne ∧ between fZero s.envDrate fOne ∧ between fZero s.envRrate fOne

/-- An envelope step keeps the value in [0, 1] and Off at +0.0 (R200). -/
theorem envStep_envOk {s : State} (h : envOk s) (hr : ratesOk s) : envOk (envStep s) := by
  obtain ⟨hu, ha, hd, hrr⟩ := hr
  have hv : between fZero s.envValue fOne := ⟨h.1, h.2.1⟩
  have vf := between_finite hv (by decide) (by decide)
  have hv' := between_scaled hv
  rw [scaled_zero, scaled_one] at hv'
  have hs : ∀ st : EnvStage, st = .off ∨ st = .attack ∨ st = .decay ∨ st = .sustain ∨ st = .release := by
    intro st; cases st <;> simp
  rcases hs s.envStage with hst | hst | hst | hst | hst
  · rw [envStep_at_off hst]; exact h
  · rw [envStep_at_attack hst]
    have af := between_finite ha (by decide) (by decide)
    have ha' := between_scaled ha
    rw [scaled_zero, scaled_one] at ha'
    have hb : between fZero (fAdd s.envValue s.envArate) fTwo := by
      apply fAdd_between vf af (by decide) (by decide)
      · rw [scaled_zero]; omega
      · rw [scaled_two]; omega
    have hn := not_nan_of_finite (between_finite hb (by decide) (by decide))
    unfold envStageAttack
    dsimp only
    by_cases hl : fLe fOne (fAdd s.envValue s.envArate) = true
    · rw [if_pos hl]
      dsimp only [envOk]
      exact ⟨by decide +kernel, by decide +kernel, fun hc => by cases hc⟩
    · rw [if_neg hl]
      dsimp only [envOk]
      refine ⟨hb.1, ?_, fun hc => by rw [hst] at hc; cases hc⟩
      refine (fLe_iff _ _).2 ⟨hn, by decide, ?_⟩
      by_contra hc
      exact hl ((fLe_iff _ _).2 ⟨by decide, hn, by omega⟩)
  · rw [envStep_at_decay hst]
    have df := between_finite hd (by decide) (by decide)
    have uf := between_finite hu (by decide) (by decide)
    have hd' := between_scaled hd
    have hu' := between_scaled hu
    rw [scaled_zero, scaled_one] at hd' hu'
    have hb : between fNegOne (fSub s.envValue s.envDrate) fOne := by
      apply fSub_between vf df (by decide) (by decide)
      · rw [scaled_negOne]; omega
      · rw [scaled_one]; omega
    have hn := not_nan_of_finite (between_finite hb (by decide) (by decide))
    unfold envStageDecay
    dsimp only
    by_cases hl : fLe (fSub s.envValue s.envDrate) s.envSus = true
    · rw [if_pos hl]
      dsimp only [envOk]
      exact ⟨hu.1, hu.2, fun hc => by cases hc⟩
    · rw [if_neg hl]
      dsimp only [envOk]
      refine ⟨?_, hb.2, fun hc => by rw [hst] at hc; cases hc⟩
      refine (fLe_iff _ _).2 ⟨by decide, hn, ?_⟩
      by_contra hc
      rw [scaled_zero] at hc
      exact hl ((fLe_iff _ _).2 ⟨hn, not_nan_of_finite uf, by omega⟩)
  · rw [envStep_at_sustain hst]; exact h
  · rw [envStep_at_release hst]
    have rf := between_finite hrr (by decide) (by decide)
    have hr' := between_scaled hrr
    rw [scaled_zero, scaled_one] at hr'
    have hb : between fNegOne (fSub s.envValue s.envRrate) fOne := by
      apply fSub_between vf rf (by decide) (by decide)
      · rw [scaled_negOne]; omega
      · rw [scaled_one]; omega
    have hn := not_nan_of_finite (between_finite hb (by decide) (by decide))
    unfold envStageRelease
    dsimp only
    by_cases hl : fLe (fSub s.envValue s.envRrate) fZero = true
    · rw [if_pos hl]
      dsimp only [envOk]
      exact ⟨by decide +kernel, by decide +kernel, fun _ => rfl⟩
    · rw [if_neg hl]
      dsimp only [envOk]
      refine ⟨?_, hb.2, fun hc => by rw [hst] at hc; cases hc⟩
      refine (fLe_iff _ _).2 ⟨by decide, hn, ?_⟩
      by_contra hc
      rw [scaled_zero] at hc
      exact hl ((fLe_iff _ _).2 ⟨hn, by decide, by rw [scaled_zero]; omega⟩)

/-- In Attack below 1.0, a legal rate lifts the value strictly (R199, R200). -/
theorem attack_rises {v r : F32} (hv0 : fLe fZero v = true) (hv1 : fLt v fOne = true) (hr : fLe 0x34CAE629#32 r = true)
    (hr1 : fLe r fOne = true) : fScaled v < fScaled (fAdd v r) ∧ fIsNaN (fAdd v r) = false := by
  have hvn := ((fLt_iff _ _).1 hv1)
  have hv0' := ((fLe_iff _ _).1 hv0).2.2
  rw [scaled_zero] at hv0'
  have hv1' := hvn.2.2
  rw [scaled_one] at hv1'
  have vf : fIsFinite v = true := finite_of_between (lo := fZero) (hi := fOne) (by decide) (by decide)
    (by rw [scaled_zero]; exact hv0') (by rw [scaled_one]; omega)
  have rf : fIsFinite r = true := fLe_finite hr hr1 (by decide) (by decide)
  obtain ⟨hn, _, hlo⟩ := fAdd_spec vf rf
  refine ⟨?_, hn⟩
  have hr' := ((fLe_iff _ _).1 hr).2.2
  have e1 : (2 : Int) ^ 125 ≤ fScaled 0x34CAE629#32 := by decide +kernel
  -- the next pattern above `v`
  have hmag : fMag v < patMag 0x3F800000 := by
    have h1 : patMag 0x3F800000 = 2 ^ 149 := by decide +kernel
    rw [h1, ← natAbs_scaled]; omega
  rw [fMag_eq, patMag_lt_iff] at hmag
  have hgap := patMag_gap hmag
  have hlt := patMag_succ (v.toNat % 2 ^ 31)
  rw [← fMag_eq] at hgap hlt
  have hvm : fScaled v = fMag v := by rw [← natAbs_scaled]; omega
  have hw := hlo (fPack false (v.toNat % 2 ^ 31 + 1)) (fPack_not_nan _ (by omega)) (by
    rw [fScaled_fPack _ (by omega), hvm]
    simp only [Bool.false_eq_true, if_false]
    omega)
  rw [fScaled_fPack _ (by omega)] at hw
  simp only [Bool.false_eq_true, if_false] at hw
  omega

end Sys2Proof.Machine
end

