-- ==== Sys2Proof/Laws/Output.lean ====
section
/-! SUPPORT. The saturators, the boost chain, the cutoff smoothing and the emitted sample. -/

namespace Sys2Proof.Machine

-- One theorem at a time: many at once ask for more threads than the memory limit of the check leaves room for.
set_option Elab.async false

/-! ## Signs -/

theorem fNeg_fPack (neg : Bool) {m : Nat} (hm : m < 2 ^ 31) : fNeg (fPack neg m) = fPack (!neg) m := by
  have h := fPack_self (fNeg (fPack neg m))
  have hs : fSign (fNeg (fPack neg m)) = !neg := by
    have : fSign (fNeg (fPack neg m)) = !fSign (fPack neg m) := by
      simp [fSign, fNeg]
    rw [this, fSign_fPack neg hm]
  rw [hs, fNeg_toNat_mod, fPack_toNat neg hm] at h
  rw [← h]
  congr 1
  cases neg <;> simp <;> omega

theorem fSign_neg (x : F32) : fSign (fNeg x) = !fSign x := by simp [fSign, fNeg]

theorem fNeg_neg (x : F32) : fNeg (fNeg x) = x := by
  rw [fNeg, fNeg, BitVec.xor_assoc, BitVec.xor_self, BitVec.xor_zero]

theorem fMag_neg (x : F32) : fMag (fNeg x) = fMag x := by rw [fMag_eq, fMag_eq, fNeg_toNat_mod]

theorem fAbs_neg (x : F32) : fAbs (fNeg x) = fAbs x := by
  apply BitVec.eq_of_toNat_eq; rw [fAbs_toNat, fAbs_toNat, fNeg_toNat_mod]

/-- Values that are equal and not zero are the same word. -/
theorem fScaled_inj {x y : F32} (h : fScaled x = fScaled y) (h0 : fScaled y ≠ 0) : x = y := by
  have hs : fSign x = fSign y := by
    rcases lt_or_gt_of_ne h0 with hn | hp
    · rw [fSign_of_neg hn, fSign_of_neg (by omega)]
    · rw [fSign_of_pos hp, fSign_of_pos (by omega)]
  have hm : fMag x = fMag y := by rw [← natAbs_scaled, ← natAbs_scaled, h]
  rw [fMag_eq, fMag_eq] at hm
  rw [← fPack_self x, ← fPack_self y, hs, patMag_strictMono.injective hm]

theorem fMul_neg_left {x y : F32} (hx : fIsFinite x = true) (hy : fIsFinite y = true) :
    fMul (fNeg x) y = fNeg (fMul x y) := by
  rw [fMul_finite (by simpa using hx) hy, fMul_finite hx hy, fMag_neg, fSign_neg,
    fNeg_fPack _ ((roundMag_le_inf _ _).trans_lt (by norm_num))]
  congr 1
  cases fSign x <;> cases fSign y <;> rfl

theorem fMul_neg_both {x y : F32} (hx : fIsFinite x = true) (hy : fIsFinite y = true) :
    fMul (fNeg x) (fNeg y) = fMul x y := by
  rw [fMul_finite (by simpa using hx) (by simpa using hy), fMul_finite hx hy, fMag_neg, fMag_neg, fSign_neg, fSign_neg]
  congr 1
  cases fSign x <;> cases fSign y <;> rfl

theorem fDiv_neg_left {x y : F32} (hx : fIsFinite x = true) (hy : fIsFinite y = true) (h0 : fScaled y ≠ 0) :
    fDiv (fNeg x) y = fNeg (fDiv x y) := by
  rw [fDiv_finite (by simpa using hx) hy h0, fDiv_finite hx hy h0, fMag_neg, fSign_neg,
    fNeg_fPack _ ((roundMag_le_inf _ _).trans_lt (by norm_num))]
  congr 1
  cases fSign x <;> cases fSign y <;> rfl

theorem fSign_mul {x y : F32} (hx : fIsFinite x = true) (hy : fIsFinite y = true) :
    fSign (fMul x y) = (fSign x != fSign y) := by
  rw [fMul_finite hx hy, fSign_fPack _ ((roundMag_le_inf _ _).trans_lt (by norm_num))]

theorem fSign_div {x y : F32} (hx : fIsFinite x = true) (hy : fIsFinite y = true) (h0 : fScaled y ≠ 0) :
    fSign (fDiv x y) = (fSign x != fSign y) := by
  rw [fDiv_finite hx hy h0, fSign_fPack _ ((roundMag_le_inf _ _).trans_lt (by norm_num))]

/-! ## SAT_HARD -/

theorem scaled_negSatLim : fScaled (fNeg satLim) = -(3 * 2 ^ 149) := by decide +kernel

/-- The clamped argument of SAT_HARD. -/
def satArg (x : F32) : F32 := fClamp x (fNeg satLim) satLim

theorem satArg_between {x : F32} (hx : fIsNaN x = false) : between (fNeg satLim) (satArg x) satLim :=
  fClamp_spec hx (by decide) (by decide) (by rw [scaled_negSatLim, scaled_satLim]; norm_num)

theorem satArg_finite {x : F32} (hx : fIsNaN x = false) : fIsFinite (satArg x) = true :=
  between_finite (satArg_between hx) (by decide) (by decide)

theorem satArg_neg (x : F32) : satArg (fNeg x) = fNeg (satArg x) := by
  have hl : fIsNaN satLim = false := by decide
  have a : fLt (fNeg x) (fNeg satLim) = fLt satLim x := by
    rw [Bool.eq_iff_iff, fLt_iff, fLt_iff, fIsNaN_neg, fIsNaN_neg, fScaled_neg, fScaled_neg]
    constructor <;> rintro ⟨h1, h2, h3⟩ <;> exact ⟨h2, h1, by omega⟩
  have b : fLt satLim (fNeg x) = fLt x (fNeg satLim) := by
    rw [Bool.eq_iff_iff, fLt_iff, fLt_iff, fIsNaN_neg, fIsNaN_neg, fScaled_neg, fScaled_neg]
    constructor <;> rintro ⟨h1, h2, h3⟩ <;> exact ⟨h2, h1, by omega⟩
  unfold satArg fClamp
  rw [a, b]
  cases h1 : fLt satLim x <;> cases h2 : fLt x (fNeg satLim)
  · rfl
  · simp [fNeg_neg]
  · rfl
  · have h3 := ((fLt_iff _ _).1 h1).2.2
    have h4 := ((fLt_iff _ _).1 h2).2.2
    rw [scaled_satLim] at h3
    rw [scaled_negSatLim] at h4
    omega

theorem satArg_sign (x : F32) : fSign (satArg x) = fSign x := by
  unfold satArg fClamp
  cases h1 : fLt x (fNeg satLim)
  · cases h2 : fLt satLim x
    · simp
    · have h3 := ((fLt_iff _ _).1 h2).2.2
      rw [scaled_satLim] at h3
      rw [fSign_of_pos (x := x) (by omega), if_neg (by decide), if_pos rfl]
      decide
  · have h3 := ((fLt_iff _ _).1 h1).2.2
    rw [scaled_negSatLim] at h3
    rw [fSign_of_neg (x := x) (by omega), if_pos rfl]
    decide

/-- `27.0 + c*c` of SAT_HARD. -/
def satTop (c : F32) : F32 := fAdd fTwentySeven (fMul c c)

/-- `27.0 + 9.0 * (c*c)` of SAT_HARD. -/
def satDen (c : F32) : F32 := fAdd fTwentySeven (fMul fNine (fMul c c))

theorem satHard_eq (x : F32) : satHard x = fDiv (fMul (satArg x) (satTop (satArg x))) (satDen (satArg x)) := rfl

theorem satSquare_between {c : F32} (h : between (fNeg satLim) c satLim) : between fZero (fMul c c) fNine := by
  have cf := between_finite h (by decide) (by decide)
  have h' := between_scaled h
  rw [scaled_negSatLim, scaled_satLim] at h'
  apply fMul_between cf cf (by decide) (by decide)
  · rw [scaled_zero]; nlinarith
  · rw [scaled_nine]; nlinarith

theorem satTop_between {c : F32} (h : between (fNeg satLim) c satLim) : between fTwentySeven (satTop c) 0x42100000#32 := by
  have h2 := satSquare_between h
  have h2' := between_scaled h2
  rw [scaled_zero, scaled_nine] at h2'
  have e : fScaled 0x42100000#32 = 36 * 2 ^ 149 := by decide +kernel
  apply fAdd_between (by decide) (between_finite h2 (by decide) (by decide)) (by decide) (by decide)
  · rw [scaled_twentySeven]; omega
  · rw [scaled_twentySeven, e]; omega

theorem satDen_between {c : F32} (h : between (fNeg satLim) c satLim) : between fTwentySeven (satDen c) 0x42D80000#32 := by
  have h2 := satSquare_between h
  have h2' := between_scaled h2
  rw [scaled_zero, scaled_nine] at h2'
  have e : fScaled 0x42D80000#32 = 108 * 2 ^ 149 := by decide +kernel
  have e1 : fScaled 0x42A20000#32 = 81 * 2 ^ 149 := by decide +kernel
  have h9 : between fZero (fMul fNine (fMul c c)) 0x42A20000#32 := by
    apply fMul_between (by decide) (between_finite h2 (by decide) (by decide)) (by decide) (by decide)
    · rw [scaled_zero, scaled_nine]; nlinarith
    · rw [scaled_nine, e1]; nlinarith
  have h9' := between_scaled h9
  rw [scaled_zero, e1] at h9'
  apply fAdd_between (by decide) (between_finite h9 (by decide) (by decide)) (by decide) (by decide)
  · rw [scaled_twentySeven]; omega
  · rw [scaled_twentySeven, e]; omega

theorem satDen_pos {c : F32} (h : between (fNeg satLim) c satLim) : 0 < fScaled (satDen c) := by
  have h' := (between_scaled (satDen_between h)).1
  rw [scaled_twentySeven] at h'
  omega

theorem satNum_finite {c : F32} (h : between (fNeg satLim) c satLim) :
    fIsFinite (fMul c (satTop c)) = true ∧ -(108 * 2 ^ 149) ≤ fScaled (fMul c (satTop c)) ∧
      fScaled (fMul c (satTop c)) ≤ 108 * 2 ^ 149 := by
  have cf := between_finite h (by decide) (by decide)
  have h' := between_scaled h
  rw [scaled_negSatLim, scaled_satLim] at h'
  have ht := satTop_between h
  have ht' := between_scaled ht
  have e : fScaled 0x42100000#32 = 36 * 2 ^ 149 := by decide +kernel
  have e1 : fScaled 0x42D80000#32 = 108 * 2 ^ 149 := by decide +kernel
  have e2 : fScaled 0xC2D80000#32 = -(108 * 2 ^ 149) := by decide +kernel
  rw [scaled_twentySeven, e] at ht'
  have hb : between 0xC2D80000#32 (fMul c (satTop c)) 0x42D80000#32 := by
    apply fMul_between cf (between_finite ht (by decide) (by decide)) (by decide) (by decide)
    · rw [e2]; nlinarith
    · rw [e1]; nlinarith
  have hb' := between_scaled hb
  rw [e1, e2] at hb'
  exact ⟨between_finite hb (by decide) (by decide), hb'⟩

/-- SAT_HARD of anything but a NaN lies in [-4, 4]. -/
theorem satHard_between {x : F32} (hx : fIsNaN x = false) : between (fNeg fFour) (satHard x) fFour := by
  have hc := satArg_between hx
  obtain ⟨nf, n1, n2⟩ := satNum_finite hc
  have hd := satDen_between hc
  have hd' := (between_scaled hd).1
  rw [scaled_twentySeven] at hd'
  rw [satHard_eq]
  apply fDiv_between nf (between_finite hd (by decide) (by decide)) (satDen_pos hc) (by decide) (by decide)
  · rw [fScaled_neg, scaled_four]; nlinarith
  · rw [scaled_four]; nlinarith

theorem satHard_finite {x : F32} (hx : fIsNaN x = false) : fIsFinite (satHard x) = true :=
  between_finite (satHard_between hx) (by decide) (by decide)

/-- SAT_HARD is odd, bit for bit (R230). -/
theorem satHard_neg {x : F32} (hx : fIsNaN x = false) : satHard (fNeg x) = fNeg (satHard x) := by
  have hc := satArg_between hx
  have cf := satArg_finite hx
  have e : fMul (fNeg (satArg x)) (fNeg (satArg x)) = fMul (satArg x) (satArg x) := fMul_neg_both cf cf
  rw [satHard_eq, satHard_eq, satArg_neg x]
  have e1 : satTop (fNeg (satArg x)) = satTop (satArg x) := by rw [satTop, e, satTop]
  have e2 : satDen (fNeg (satArg x)) = satDen (satArg x) := by rw [satDen, e, satDen]
  rw [e1, e2, fMul_neg_left cf (between_finite (satTop_between hc) (by decide) (by decide)),
    fDiv_neg_left (satNum_finite hc).1 (between_finite (satDen_between hc) (by decide) (by decide)) (satDen_pos hc).ne']

/-- SAT_HARD keeps the sign, that of a zero too (R230). -/
theorem satHard_sign {x : F32} (hx : fIsNaN x = false) : fSign (satHard x) = fSign x := by
  have hc := satArg_between hx
  have ht := between_scaled (satTop_between hc)
  rw [scaled_twentySeven] at ht
  have s1 : fSign (satTop (satArg x)) = false := fSign_of_pos (by omega)
  have s2 : fSign (satDen (satArg x)) = false := fSign_of_pos (satDen_pos hc)
  rw [satHard_eq, fSign_div (satNum_finite hc).1 (between_finite (satDen_between hc) (by decide) (by decide))
    (satDen_pos hc).ne', s2, fSign_mul (satArg_finite hx) (between_finite (satTop_between hc) (by decide) (by decide)), s1,
    satArg_sign x]
  simp

/-- From 3.0 on SAT_HARD is exactly 1.0 (R230). -/
theorem satHard_flat {x : F32} (hx : fIsNaN x = false) (h : fLe satLim x = true) : satHard x = fOne := by
  have h1 := ((fLe_iff _ _).1 h).2.2
  have hc : satArg x = satLim := by
    unfold satArg fClamp
    have a : fLt x (fNeg satLim) = false := by
      rw [Bool.eq_false_iff]
      intro hc
      have := ((fLt_iff _ _).1 hc).2.2
      rw [scaled_satLim] at h1
      rw [scaled_negSatLim] at this
      omega
    rw [a, if_neg (by decide)]
    by_cases hb : fLt satLim x = true
    · rw [if_pos hb]
    · rw [if_neg hb]
      have h2 : ¬ fScaled satLim < fScaled x := fun hc => hb ((fLt_iff _ _).2 ⟨by decide, hx, hc⟩)
      exact fScaled_inj (by omega) (by rw [scaled_satLim]; norm_num)
  rw [satHard_eq, hc]
  decide +kernel

/-! ## SAT_SOFT -/

/-- SAT_SOFT of a finite value: of its sign, and at most 1.0 in magnitude (R231). -/
theorem satSoft_spec {x : F32} (hx : fIsFinite x = true) : fSign (satSoft x) = fSign x ∧ fLe (fAbs (satSoft x)) fOne = true ∧
    satSoft (fNeg x) = fNeg (satSoft x) := by
  have af : fIsFinite (fAbs x) = true := by rw [fIsFinite_abs]; exact hx
  obtain ⟨dn, _, dlo⟩ := fAdd_spec (x := fOne) (y := fAbs x) (by decide) af
  have habs : 0 ≤ fScaled (fAbs x) := by rw [fScaled_abs]; exact abs_nonneg _
  have d1 := dlo fOne (by decide) (by omega)
  have d2 := dlo (fAbs x) (not_nan_of_finite af) (by rw [scaled_one]; omega)
  rw [scaled_one] at d1
  have ds : fSign (fAdd fOne (fAbs x)) = false := fSign_of_pos (by omega)
  unfold satSoft
  rw [fAbs_neg]
  generalize fAdd fOne (fAbs x) = d at *
  by_cases hd : fIsFinite d = true
  · have d0 : fScaled d ≠ 0 := by omega
    refine ⟨?_, ?_, fDiv_neg_left hx hd d0⟩
    · rw [fSign_div hx hd d0, ds]; simp
    · rw [fScaled_abs] at d2
      have hb : between fNegOne (fDiv x d) fOne := by
        have := abs_le.1 d2
        apply fDiv_between hx hd (by omega) (by decide) (by decide)
        · rw [scaled_negOne]; nlinarith
        · rw [scaled_one]; nlinarith
      have hb' := between_scaled hb
      rw [scaled_negOne, scaled_one] at hb'
      refine (fLe_iff _ _).2 ⟨by rw [fIsNaN_abs]; exact ((fLe_iff _ _).1 hb.2).1, by decide, ?_⟩
      rw [fScaled_abs, scaled_one]
      exact abs_le.2 hb'
  · have hi : fIsInf d = true := by
      rw [fIsInf_iff]
      rw [fIsFinite_iff] at hd
      rw [fIsNaN_false_iff] at dn
      omega
    have e : ∀ y : F32, fIsFinite y = true → fDiv y d = fPack (fSign y) 0 := by
      intro y hy
      simp [fDiv, not_nan_of_finite hy, dn, not_inf_of_finite hy, hi, ds]
    rw [e x hx, e (fNeg x) (by simpa using hx), fSign_neg, fNeg_fPack _ (by norm_num)]
    refine ⟨fSign_fPack _ (by norm_num), ?_, rfl⟩
    cases fSign x <;> decide +kernel

/-! ## BOOST_CHAIN and the emitted sample -/

theorem boostChain_between {b : BoostCfg} (hb : legalBoost b = true) {x : F32} (hx : between 0xC1C00000#32 x 0x41C00000#32) :
    between (fNeg fFour) (boostChain b x) fFour := by
  simp only [legalBoost, Bool.and_eq_true] at hb
  obtain ⟨pf, p⟩ := finiteIn_between hb.1
  obtain ⟨qf, q⟩ := finiteIn_between hb.2
  have xf := between_finite hx (by decide) (by decide)
  have m1 := (fMul_spec xf pf).1
  have m2 := (fMul_spec (satHard_finite m1) qf).1
  exact satHard_between m2

theorem clamp_unit {x : F32} (h : fIsNaN x = false) : between fNegOne (fClamp x fNegOne fOne) fOne :=
  fClamp_spec h (by decide) (by decide) (by rw [scaled_negOne, scaled_one]; norm_num)

/-- The clamp of R250 passes nothing but a NaN and values in [-1, 1]. -/
theorem clamp_unit_or_nan (x : F32) :
    fIsNaN (fClamp x fNegOne fOne) = true ∨ between fNegOne (fClamp x fNegOne fOne) fOne := by
  cases h : fIsNaN x
  · exact .inr (clamp_unit h)
  · exact .inl (by simp [fClamp, fLt, h])

/-- Whatever the tangent and the state, the emitted sample is a NaN or in [-1, 1] (R250). -/
theorem emittedSample_unit_or_nan (tan : F32 → F32) (dt : F32) (s : State) :
    fIsNaN (emittedSample tan dt s) = true ∨ between fNegOne (emittedSample tan dt s) fOne :=
  clamp_unit_or_nan _

/-- With the filter bypassed the emitted sample is in [-1, 1] (R250, R263). -/
theorem emittedSample_between {tan : F32 → F32} {dt : F32} {s : State} (hc : configOk s) (hp : phasesOk s) (he : envOk s)
    (hr : ratesOk s) (hd : between fZero dt fOne) (hf : s.cfgActive.filt.en = false) :
    between fNegOne (emittedSample tan dt s) fOne := by
  have hm := mixOscillators_between hc hp hd
  have mf := between_finite hm (by decide) (by decide)
  have hcfg : (envStep (mixOscillators dt s).2).cfgActive = s.cfgActive := by rw [envStep_frame, mixOscillators_frame]
  have hval : (envStep (mixOscillators dt s).2).envValue = (envStep s).envValue := by
    rw [mixOscillators_frame, envStep_phase]
  have hv := envStep_envOk he hr
  have hv' : between fZero (envStep s).envValue fOne := ⟨hv.1, hv.2.1⟩
  have vf := between_finite hv' (by decide) (by decide)
  have e3 : fScaled 0xC1C00000#32 = -(24 * 2 ^ 149) := by decide +kernel
  have e4 : fScaled 0x41C00000#32 = 24 * 2 ^ 149 := by decide +kernel
  have hb : between 0xC1C00000#32 (fMul (mixOscillators dt s).1 (envStep s).envValue) 0x41C00000#32 := by
    have m' := between_scaled hm
    have v' := between_scaled hv'
    rw [e3, e4] at m'
    rw [scaled_zero, scaled_one] at v'
    apply fMul_between mf vf (by decide) (by decide)
    · rw [e3]; nlinarith
    · rw [e4]; nlinarith
  unfold emittedSample filterStage
  dsimp only
  rw [hcfg, hf, if_neg (by decide), hval]
  exact clamp_unit (not_nan_of_finite
    (between_finite (boostChain_between (configOk_boost hc) hb) (by decide) (by decide)))

/-! ## The cutoff -/

/-- The cutoff target lies in [20, 20000] (R210). -/
theorem filtTarget_between {c : FiltCfg} (hc : legalFilt c = true) {e : F32} (he : between fZero e fOne) :
    between fcMinF (filtTarget c e) fcMaxF := by
  simp only [legalFilt, Bool.and_eq_true] at hc
  have ef := between_finite he (by decide) (by decide)
  have he' := between_scaled he
  rw [scaled_zero, scaled_one] at he'
  have hn : fIsNaN (if c.contourEn = true then fAdd c.cutoff (fMul c.contour e) else c.cutoff) = false := by
    split
    · have habs : |fScaled c.contour * fScaled e| ≤ |fScaled c.contour| * 2 ^ 149 := by
        rw [abs_mul]
        exact mul_le_mul_of_nonneg_left (abs_le.2 ⟨by omega, by omega⟩) (abs_nonneg _)
      have hb : between (fNeg (fAbs c.contour)) (fMul c.contour e) (fAbs c.contour) := by
        apply fMul_between hc.2 ef
        · rw [fIsNaN_neg, fIsNaN_abs]; exact not_nan_of_finite hc.2
        · rw [fIsNaN_abs]; exact not_nan_of_finite hc.2
        · rw [fScaled_neg, fScaled_abs]; have := (abs_le.1 habs).1; omega
        · rw [fScaled_abs]; exact (abs_le.1 habs).2
      exact (fAdd_spec hc.1.1 (between_finite hb (by rw [fIsFinite_neg, fIsFinite_abs]; exact hc.2)
        (by rw [fIsFinite_abs]; exact hc.2))).1
    · exact not_nan_of_finite hc.1.1
  exact fClamp_spec hn (by decide) (by decide) (by rw [scaled_fcMin, scaled_fcMax]; norm_num)

/-- The power of two at or below a positive integer and the next one. -/
theorem pow_bracket (e : Int) (h : 0 < e) : ∃ L : Nat, (2 : Int) ^ L ≤ e ∧ e < 2 ^ (L + 1) := by
  refine ⟨e.toNat.log2, ?_, ?_⟩
  · have := Nat.log2_self_le (n := e.toNat) (by omega)
    have h2 : ((2 ^ e.toNat.log2 : Nat) : Int) ≤ (e.toNat : Int) := by exact_mod_cast this
    push_cast at h2
    omega
  · have := Nat.lt_log2_self (n := e.toNat)
    have h2 : (e.toNat : Int) < ((2 ^ (e.toNat.log2 + 1) : Nat) : Int) := by exact_mod_cast this
    push_cast at h2
    omega

/-- The step of the smoothed cutoff is of the sign of the distance, and no longer than it (R211). -/
theorem smooth_step {fc t : F32} (hfc : between fcMinF fc fcMaxF) (ht : between fcMinF t fcMaxF) :
    fIsFinite (fMul smoothA (fSub t fc)) = true ∧
    (fScaled fc ≤ fScaled t → 0 ≤ fScaled (fMul smoothA (fSub t fc)) ∧
      fScaled (fMul smoothA (fSub t fc)) ≤ fScaled t - fScaled fc) ∧
    (fScaled t ≤ fScaled fc → fScaled (fMul smoothA (fSub t fc)) ≤ 0 ∧
      fScaled t - fScaled fc ≤ fScaled (fMul smoothA (fSub t fc))) := by
  have ff := between_finite hfc (by decide) (by decide)
  have tf := between_finite ht (by decide) (by decide)
  have f' := between_scaled hfc
  have t' := between_scaled ht
  rw [scaled_fcMin, scaled_fcMax] at f' t'
  have ea : 0 < fScaled smoothA ∧ fScaled smoothA * 4096 ≤ 2 ^ 149 := by decide +kernel
  have af : fIsFinite smoothA = true := by decide
  obtain ⟨dn, dhi, dlo⟩ := fSub_spec tf ff
  have hdf : between (fNeg fcMaxF) (fSub t fc) fcMaxF := by
    apply fSub_between tf ff (by decide) (by decide)
    · rw [fScaled_neg, scaled_fcMax]; omega
    · rw [scaled_fcMax]; omega
  have df := between_finite hdf (by decide) (by decide)
  obtain ⟨pn, phi, plo⟩ := fMul_spec af df
  have hd' := between_scaled hdf
  rw [fScaled_neg, scaled_fcMax] at hd'
  have hpf : between (fNeg fcMaxF) (fMul smoothA (fSub t fc)) fcMaxF := by
    apply fMul_between af df (by decide) (by decide)
    · rw [fScaled_neg, scaled_fcMax]; nlinarith
    · rw [scaled_fcMax]; nlinarith
  refine ⟨between_finite hpf (by decide) (by decide), fun h => ?_, fun h => ?_⟩
  · have d0 := dlo fZero (by decide) (by rw [scaled_zero]; omega)
    rw [scaled_zero] at d0
    have p0 := plo fZero (by decide) (by rw [scaled_zero]; nlinarith)
    rw [scaled_zero] at p0
    refine ⟨p0, ?_⟩
    rcases h.eq_or_lt with he | hlt
    · have d1 := dhi fZero (by decide) (by rw [scaled_zero]; omega)
      rw [scaled_zero] at d1
      have p1 := phi fZero (by decide) (by rw [scaled_zero]; nlinarith)
      rw [scaled_zero] at p1
      omega
    · obtain ⟨L, l1, l2⟩ := pow_bracket (fScaled t - fScaled fc) (by omega)
      have hL : L < 165 := by
        by_contra hc
        have : (2 : Int) ^ 165 ≤ 2 ^ L := pow_le_pow_right₀ (by norm_num) (by omega)
        omega
      obtain ⟨r1, rf1, rv1⟩ := exists_pow (L + 1) (by omega)
      obtain ⟨r0, rf0, rv0⟩ := exists_pow L (by omega)
      have d1 := dhi r1 (not_nan_of_finite rf1) (by rw [rv1]; omega)
      rw [rv1, pow_succ] at d1
      have p1 := phi r0 (not_nan_of_finite rf0) (by rw [rv0]; nlinarith)
      rw [rv0] at p1
      omega
  · have d0 := dhi fZero (by decide) (by rw [scaled_zero]; omega)
    rw [scaled_zero] at d0
    have p0 := phi fZero (by decide) (by rw [scaled_zero]; nlinarith)
    rw [scaled_zero] at p0
    refine ⟨p0, ?_⟩
    rcases h.eq_or_lt with he | hlt
    · have d1 := dlo fZero (by decide) (by rw [scaled_zero]; omega)
      rw [scaled_zero] at d1
      have p1 := plo fZero (by decide) (by rw [scaled_zero]; nlinarith)
      rw [scaled_zero] at p1
      omega
    · obtain ⟨L, l1, l2⟩ := pow_bracket (fScaled fc - fScaled t) (by omega)
      have hL : L < 165 := by
        by_contra hc
        have : (2 : Int) ^ 165 ≤ 2 ^ L := pow_le_pow_right₀ (by norm_num) (by omega)
        omega
      obtain ⟨r1, rf1, rv1⟩ := exists_pow (L + 1) (by omega)
      obtain ⟨r0, rf0, rv0⟩ := exists_pow L (by omega)
      have n1 : fIsNaN (fNeg r1) = false := by rw [fIsNaN_neg]; exact not_nan_of_finite rf1
      have n0 : fIsNaN (fNeg r0) = false := by rw [fIsNaN_neg]; exact not_nan_of_finite rf0
      have d1 := dlo (fNeg r1) n1 (by rw [fScaled_neg, rv1]; omega)
      rw [fScaled_neg, rv1, pow_succ] at d1
      have p1 := plo (fNeg r0) n0 (by rw [fScaled_neg, rv0]; nlinarith)
      rw [fScaled_neg, rv0] at p1
      omega

/-- The smoothed cutoff lies between the old cutoff and the target (R211). -/
theorem smoothed_between {fc t : F32} (hfc : between fcMinF fc fcMaxF) (ht : between fcMinF t fcMaxF) :
    (fLe fc t = true → between fc (smoothed fc t) t) ∧ (fLe t fc = true → between t (smoothed fc t) fc) := by
  obtain ⟨pf, up, down⟩ := smooth_step hfc ht
  have ff := between_finite hfc (by decide) (by decide)
  have tf := between_finite ht (by decide) (by decide)
  constructor
  · intro h
    obtain ⟨a, b⟩ := up ((fLe_iff _ _).1 h).2.2
    exact fAdd_between ff pf (not_nan_of_finite ff) (not_nan_of_finite tf) (by omega) (by omega)
  · intro h
    obtain ⟨a, b⟩ := down ((fLe_iff _ _).1 h).2.2
    exact fAdd_between ff pf (not_nan_of_finite tf) (not_nan_of_finite ff) (by omega) (by omega)

theorem fLe_total {x y : F32} (hx : fIsNaN x = false) (hy : fIsNaN y = false) : fLe x y = true ∨ fLe y x = true := by
  rcases le_total (fScaled x) (fScaled y) with h | h
  · exact .inl ((fLe_iff _ _).2 ⟨hx, hy, h⟩)
  · exact .inr ((fLe_iff _ _).2 ⟨hy, hx, h⟩)

theorem fLe_trans {x y z : F32} (h1 : fLe x y = true) (h2 : fLe y z = true) : fLe x z = true := by
  rw [fLe_iff] at *
  exact ⟨h1.1, h2.2.1, h1.2.2.trans h2.2.2⟩

/-- Smoothing keeps the cutoff in [20, 20000] (R45, R211). -/
theorem smoothed_cutoff {fc t : F32} (hfc : between fcMinF fc fcMaxF) (ht : between fcMinF t fcMaxF) :
    between fcMinF (smoothed fc t) fcMaxF := by
  have ff := between_finite hfc (by decide) (by decide)
  have tf := between_finite ht (by decide) (by decide)
  obtain ⟨up, down⟩ := smoothed_between hfc ht
  rcases fLe_total (not_nan_of_finite ff) (not_nan_of_finite tf) with h | h
  · exact ⟨fLe_trans hfc.1 (up h).1, fLe_trans (up h).2 ht.2⟩
  · exact ⟨fLe_trans ht.1 (down h).1, fLe_trans (down h).2 hfc.2⟩

/-! ## What a sample keeps -/

/-- What a block needs at its start, and every sample keeps: a legal configuration, phases and envelope in range, rates in
range. -/
abbrev sampleOk (s : State) : Prop := configOk s ∧ phasesOk s ∧ envOk s ∧ ratesOk s

theorem envOk_congr {s t : State} (h1 : t.envValue = s.envValue) (h2 : t.envStage = s.envStage) (h : envOk s) : envOk t := by
  rw [envOk, h1, h2]; exact h

theorem sampleWith_sampleOk {tan : F32 → F32} {dt : F32} (hd : between fZero dt fOne) {s : State} (h : sampleOk s) :
    sampleOk (sampleWith tan dt s) := by
  obtain ⟨hc, hp, he, hr⟩ := h
  refine ⟨?_, ?_, ?_, ?_⟩
  · rw [configOk, sampleWith_frame]; exact hc
  · rw [sampleWith_frame]; exact mixOscillators_phasesOk hc hp hd
  · exact envOk_congr (s := envStep s) (by rw [sampleWith_frame]) (by rw [sampleWith_frame]) (envStep_envOk he hr)
  · rw [sampleWith_frame]; exact hr

/-- A sample keeps the cutoff in range, whatever the tangent. -/
theorem sampleWith_cutoff {tan : F32 → F32} {dt : F32} {s : State} (hc : configOk s) (he : envOk s)
    (hr : ratesOk s) (hf : cutoffOk s) :
    cutoffOk (sampleWith tan dt s) := by
  have hcfg : (envStep (mixOscillators dt s).2).cfgActive = s.cfgActive := by rw [envStep_frame, mixOscillators_frame]
  have hval : (envStep (mixOscillators dt s).2).envValue = (envStep s).envValue := by
    rw [mixOscillators_frame, envStep_phase]
  have hfc : (envStep (mixOscillators dt s).2).filtFc = s.filtFc := by rw [envStep_frame, mixOscillators_frame]
  have hv := envStep_envOk he hr
  have key : between fcMinF (sampleWith tan dt s).filtFc fcMaxF := by
    unfold sampleWith filterStage
    dsimp only [emit]
    split
    · rw [filtSampleWith_frame, hcfg, hval, hfc]
      exact smoothed_cutoff hf (filtTarget_between (configOk_filt hc) ⟨hv.1, hv.2.1⟩)
    · rw [hfc]; exact hf
  exact key

end Sys2Proof.Machine
end

