-- ==== Sys2Proof/Laws/PerInstr.lean ====
section
/-! SUPPORT. Facts of every instruction as syntax, one lemma for each constructor. -/

namespace Sys2Proof.Laws

-- One theorem at a time: many at once ask for more threads than the memory limit of the check leaves room for.
set_option Elab.async false

/-- The rows of the opcode table's format "internal": "no host encoding; invoked by the tick" (R118). -/
def isInternal (i : Instr) : Bool :=
  match i with
  | .noteOff _ _ _ _ _ _ => false
  | .noteOnVel0 _ _ _ _ _ => false
  | .noteOn _ _ _ _ _ _ => false
  | .evtIgnore _ _ _ _ _ _ _ => false
  | .wrCfgStageArpCtrl _ => false
  | .rdCfgStageArpCtrl => false
  | .wrCfgStageArpBpm _ => false
  | .rdCfgStageArpBpm => false
  | .wrCfgStageArpDiv _ => false
  | .rdCfgStageArpDiv => false
  | .wrCfgStageOsc0Ctrl _ => false
  | .rdCfgStageOsc0Ctrl => false
  | .wrCfgStageOsc0Fmult _ => false
  | .rdCfgStageOsc0Fmult => false
  | .wrCfgStageOsc0Gain _ => false
  | .rdCfgStageOsc0Gain => false
  | .wrCfgStageOsc1Ctrl _ => false
  | .rdCfgStageOsc1Ctrl => false
  | .wrCfgStageOsc1Fmult _ => false
  | .rdCfgStageOsc1Fmult => false
  | .wrCfgStageOsc1Gain _ => false
  | .rdCfgStageOsc1Gain => false
  | .wrCfgStageOsc2Ctrl _ => false
  | .rdCfgStageOsc2Ctrl => false
  | .wrCfgStageOsc2Fmult _ => false
  | .rdCfgStageOsc2Fmult => false
  | .wrCfgStageOsc2Gain _ => false
  | .rdCfgStageOsc2Gain => false
  | .wrCfgStageEnvAttack _ => false
  | .rdCfgStageEnvAttack => false
  | .wrCfgStageEnvDecay _ => false
  | .rdCfgStageEnvDecay => false
  | .wrCfgStageEnvSustain _ => false
  | .rdCfgStageEnvSustain => false
  | .wrCfgStageEnvRelease _ => false
  | .rdCfgStageEnvRelease => false
  | .wrCfgStageBoostPre _ => false
  | .rdCfgStageBoostPre => false
  | .wrCfgStageBoostPost _ => false
  | .rdCfgStageBoostPost => false
  | .wrCfgStageFiltCtrl _ => false
  | .rdCfgStageFiltCtrl => false
  | .wrCfgStageFiltCutoff _ => false
  | .rdCfgStageFiltCutoff => false
  | .wrCfgStageFiltRes _ => false
  | .rdCfgStageFiltRes => false
  | .wrCfgStageFiltContour _ => false
  | .rdCfgStageFiltContour => false
  | .rdCfgActiveArpCtrl => false
  | .wrCfgActiveArpCtrl _ => false
  | .rdCfgActiveArpBpm => false
  | .wrCfgActiveArpBpm _ => false
  | .rdCfgActiveArpDiv => false
  | .wrCfgActiveArpDiv _ => false
  | .rdCfgActiveOsc0Ctrl => false
  | .wrCfgActiveOsc0Ctrl _ => false
  | .rdCfgActiveOsc0Fmult => false
  | .wrCfgActiveOsc0Fmult _ => false
  | .rdCfgActiveOsc0Gain => false
  | .wrCfgActiveOsc0Gain _ => false
  | .rdCfgActiveOsc1Ctrl => false
  | .wrCfgActiveOsc1Ctrl _ => false
  | .rdCfgActiveOsc1Fmult => false
  | .wrCfgActiveOsc1Fmult _ => false
  | .rdCfgActiveOsc1Gain => false
  | .wrCfgActiveOsc1Gain _ => false
  | .rdCfgActiveOsc2Ctrl => false
  | .wrCfgActiveOsc2Ctrl _ => false
  | .rdCfgActiveOsc2Fmult => false
  | .wrCfgActiveOsc2Fmult _ => false
  | .rdCfgActiveOsc2Gain => false
  | .wrCfgActiveOsc2Gain _ => false
  | .rdCfgActiveEnvAttack => false
  | .wrCfgActiveEnvAttack _ => false
  | .rdCfgActiveEnvDecay => false
  | .wrCfgActiveEnvDecay _ => false
  | .rdCfgActiveEnvSustain => false
  | .wrCfgActiveEnvSustain _ => false
  | .rdCfgActiveEnvRelease => false
  | .wrCfgActiveEnvRelease _ => false
  | .rdCfgActiveBoostPre => false
  | .wrCfgActiveBoostPre _ => false
  | .rdCfgActiveBoostPost => false
  | .wrCfgActiveBoostPost _ => false
  | .rdCfgActiveFiltCtrl => false
  | .wrCfgActiveFiltCtrl _ => false
  | .rdCfgActiveFiltCutoff => false
  | .wrCfgActiveFiltCutoff _ => false
  | .rdCfgActiveFiltRes => false
  | .wrCfgActiveFiltRes _ => false
  | .rdCfgActiveFiltContour => false
  | .wrCfgActiveFiltContour _ => false
  | .wrCfgCommit _ => false
  | .rdCfgCommit => false
  | .rdMboxStatus => false
  | .wrMboxStatus _ => false
  | .wrEvtPush _ => false
  | .rdEvtPush => false
  | .rdEvtStatus => false
  | .wrEvtStatus _ => false
  | .rdVoiceStatus => false
  | .wrVoiceStatus _ => false
  | .rdEnvValue => false
  | .wrEnvValue _ => false
  | .rdArpCounter => false
  | .wrArpCounter _ => false
  | .rdArpLastMs => false
  | .wrArpLastMs _ => false
  | .rdTrkSlots0 => false
  | .wrTrkSlots0 _ => false
  | .rdTrkSlots1 => false
  | .wrTrkSlots1 _ => false
  | .rdOscPhase0 => false
  | .wrOscPhase0 _ => false
  | .rdOscPhase1 => false
  | .wrOscPhase1 _ => false
  | .rdOscPhase2 => false
  | .wrOscPhase2 _ => false
  | .rdFiltState => false
  | .wrFiltState _ => false
  | .rdFiltFc => false
  | .wrFiltFc _ => false
  | .rdEnvArate => false
  | .wrEnvArate _ => false
  | .rdEnvDrate => false
  | .wrEnvDrate _ => false
  | .rdEnvRrate => false
  | .wrEnvRrate _ => false
  | .rdEnvSus => false
  | .wrEnvSus _ => false
  | .wrTrkQuery _ => false
  | .rdTrkQuery => false
  | .rdReserved _ => false
  | .wrReserved _ _ => false
  | .busError _ => false
  | .tick _ => false
  | .waveSine _ => false
  | .waveSaw _ => false
  | .waveSquare _ => false
  | .waveTriangle _ => false
  | .evtKind _ => true
  | .trkPush _ => true
  | .trkMostRecent => true
  | .trkSmallest => true
  | .trkRightOf _ => true
  | .trkPop _ => true
  | .trkLength => true
  | .trkAt _ => true
  | .arpPeriod _ => true
  | .arpStep _ _ => true
  | .arpClear => true
  | .arpIndex => true
  | .dt _ => true
  | .wave _ _ => true
  | .oscStep _ _ => true
  | .envSetRates _ => true
  | .envStep => true
  | .envStageOff => true
  | .envStageAttack => true
  | .envStageDecay => true
  | .envStageSustain => true
  | .envStageRelease => true
  | .envTriggerOn => true
  | .envTriggerOff => true
  | .filtTarget _ _ => true
  | .filtSmooth _ => true
  | .filtK _ => true
  | .filtSample _ _ => true
  | .satHard _ => true
  | .satSoft _ => true
  | .boostChain _ => true
  | .adopt => true
  | .drain => true
  | .emptyVoice => true
  | .selectNote _ => true
  | .retrigger _ => true
  | .setRatesStep => true
  | .sample _ => true
  | .emit _ => true

/-- An instruction has a frame exactly when the opcode table gives it an encoding (R118). -/
def Encodable.Statement (i : Instr) : Prop := (encode i).isNone = isInternal i

theorem Encodable.noteOff (chan : BitVec 4) (pitch : BitVec 7) (x15 : Bool) (vel : BitVec 7) (x23 : Bool) (b3 : U8) : Encodable.Statement (.noteOff chan pitch x15 vel x23 b3) := rfl
theorem Encodable.noteOnVel0 (chan : BitVec 4) (pitch : BitVec 7) (x15 : Bool) (x23 : Bool) (b3 : U8) : Encodable.Statement (.noteOnVel0 chan pitch x15 x23 b3) := rfl
theorem Encodable.noteOn (chan : BitVec 4) (pitch : BitVec 7) (x15 : Bool) (vel : BitVec 7) (x23 : Bool) (b3 : U8) : Encodable.Statement (.noteOn chan pitch x15 vel x23 b3) := rfl
theorem Encodable.evtIgnore (chan : BitVec 4) (status : BitVec 4) (pitch : BitVec 7) (x15 : Bool) (vel : BitVec 7) (x23 : Bool) (b3 : U8) : Encodable.Statement (.evtIgnore chan status pitch x15 vel x23 b3) := rfl
theorem Encodable.wrCfgStageArpCtrl (v : U32) : Encodable.Statement (.wrCfgStageArpCtrl v) := rfl
theorem Encodable.rdCfgStageArpCtrl : Encodable.Statement (.rdCfgStageArpCtrl) := rfl
theorem Encodable.wrCfgStageArpBpm (v : U32) : Encodable.Statement (.wrCfgStageArpBpm v) := rfl
theorem Encodable.rdCfgStageArpBpm : Encodable.Statement (.rdCfgStageArpBpm) := rfl
theorem Encodable.wrCfgStageArpDiv (v : U32) : Encodable.Statement (.wrCfgStageArpDiv v) := rfl
theorem Encodable.rdCfgStageArpDiv : Encodable.Statement (.rdCfgStageArpDiv) := rfl
theorem Encodable.wrCfgStageOsc0Ctrl (v : U32) : Encodable.Statement (.wrCfgStageOsc0Ctrl v) := rfl
theorem Encodable.rdCfgStageOsc0Ctrl : Encodable.Statement (.rdCfgStageOsc0Ctrl) := rfl
theorem Encodable.wrCfgStageOsc0Fmult (v : U32) : Encodable.Statement (.wrCfgStageOsc0Fmult v) := rfl
theorem Encodable.rdCfgStageOsc0Fmult : Encodable.Statement (.rdCfgStageOsc0Fmult) := rfl
theorem Encodable.wrCfgStageOsc0Gain (v : U32) : Encodable.Statement (.wrCfgStageOsc0Gain v) := rfl
theorem Encodable.rdCfgStageOsc0Gain : Encodable.Statement (.rdCfgStageOsc0Gain) := rfl
theorem Encodable.wrCfgStageOsc1Ctrl (v : U32) : Encodable.Statement (.wrCfgStageOsc1Ctrl v) := rfl
theorem Encodable.rdCfgStageOsc1Ctrl : Encodable.Statement (.rdCfgStageOsc1Ctrl) := rfl
theorem Encodable.wrCfgStageOsc1Fmult (v : U32) : Encodable.Statement (.wrCfgStageOsc1Fmult v) := rfl
theorem Encodable.rdCfgStageOsc1Fmult : Encodable.Statement (.rdCfgStageOsc1Fmult) := rfl
theorem Encodable.wrCfgStageOsc1Gain (v : U32) : Encodable.Statement (.wrCfgStageOsc1Gain v) := rfl
theorem Encodable.rdCfgStageOsc1Gain : Encodable.Statement (.rdCfgStageOsc1Gain) := rfl
theorem Encodable.wrCfgStageOsc2Ctrl (v : U32) : Encodable.Statement (.wrCfgStageOsc2Ctrl v) := rfl
theorem Encodable.rdCfgStageOsc2Ctrl : Encodable.Statement (.rdCfgStageOsc2Ctrl) := rfl
theorem Encodable.wrCfgStageOsc2Fmult (v : U32) : Encodable.Statement (.wrCfgStageOsc2Fmult v) := rfl
theorem Encodable.rdCfgStageOsc2Fmult : Encodable.Statement (.rdCfgStageOsc2Fmult) := rfl
theorem Encodable.wrCfgStageOsc2Gain (v : U32) : Encodable.Statement (.wrCfgStageOsc2Gain v) := rfl
theorem Encodable.rdCfgStageOsc2Gain : Encodable.Statement (.rdCfgStageOsc2Gain) := rfl
theorem Encodable.wrCfgStageEnvAttack (v : U32) : Encodable.Statement (.wrCfgStageEnvAttack v) := rfl
theorem Encodable.rdCfgStageEnvAttack : Encodable.Statement (.rdCfgStageEnvAttack) := rfl
theorem Encodable.wrCfgStageEnvDecay (v : U32) : Encodable.Statement (.wrCfgStageEnvDecay v) := rfl
theorem Encodable.rdCfgStageEnvDecay : Encodable.Statement (.rdCfgStageEnvDecay) := rfl
theorem Encodable.wrCfgStageEnvSustain (v : U32) : Encodable.Statement (.wrCfgStageEnvSustain v) := rfl
theorem Encodable.rdCfgStageEnvSustain : Encodable.Statement (.rdCfgStageEnvSustain) := rfl
theorem Encodable.wrCfgStageEnvRelease (v : U32) : Encodable.Statement (.wrCfgStageEnvRelease v) := rfl
theorem Encodable.rdCfgStageEnvRelease : Encodable.Statement (.rdCfgStageEnvRelease) := rfl
theorem Encodable.wrCfgStageBoostPre (v : U32) : Encodable.Statement (.wrCfgStageBoostPre v) := rfl
theorem Encodable.rdCfgStageBoostPre : Encodable.Statement (.rdCfgStageBoostPre) := rfl
theorem Encodable.wrCfgStageBoostPost (v : U32) : Encodable.Statement (.wrCfgStageBoostPost v) := rfl
theorem Encodable.rdCfgStageBoostPost : Encodable.Statement (.rdCfgStageBoostPost) := rfl
theorem Encodable.wrCfgStageFiltCtrl (v : U32) : Encodable.Statement (.wrCfgStageFiltCtrl v) := rfl
theorem Encodable.rdCfgStageFiltCtrl : Encodable.Statement (.rdCfgStageFiltCtrl) := rfl
theorem Encodable.wrCfgStageFiltCutoff (v : U32) : Encodable.Statement (.wrCfgStageFiltCutoff v) := rfl
theorem Encodable.rdCfgStageFiltCutoff : Encodable.Statement (.rdCfgStageFiltCutoff) := rfl
theorem Encodable.wrCfgStageFiltRes (v : U32) : Encodable.Statement (.wrCfgStageFiltRes v) := rfl
theorem Encodable.rdCfgStageFiltRes : Encodable.Statement (.rdCfgStageFiltRes) := rfl
theorem Encodable.wrCfgStageFiltContour (v : U32) : Encodable.Statement (.wrCfgStageFiltContour v) := rfl
theorem Encodable.rdCfgStageFiltContour : Encodable.Statement (.rdCfgStageFiltContour) := rfl
theorem Encodable.rdCfgActiveArpCtrl : Encodable.Statement (.rdCfgActiveArpCtrl) := rfl
theorem Encodable.wrCfgActiveArpCtrl (v : U32) : Encodable.Statement (.wrCfgActiveArpCtrl v) := rfl
theorem Encodable.rdCfgActiveArpBpm : Encodable.Statement (.rdCfgActiveArpBpm) := rfl
theorem Encodable.wrCfgActiveArpBpm (v : U32) : Encodable.Statement (.wrCfgActiveArpBpm v) := rfl
theorem Encodable.rdCfgActiveArpDiv : Encodable.Statement (.rdCfgActiveArpDiv) := rfl
theorem Encodable.wrCfgActiveArpDiv (v : U32) : Encodable.Statement (.wrCfgActiveArpDiv v) := rfl
theorem Encodable.rdCfgActiveOsc0Ctrl : Encodable.Statement (.rdCfgActiveOsc0Ctrl) := rfl
theorem Encodable.wrCfgActiveOsc0Ctrl (v : U32) : Encodable.Statement (.wrCfgActiveOsc0Ctrl v) := rfl
theorem Encodable.rdCfgActiveOsc0Fmult : Encodable.Statement (.rdCfgActiveOsc0Fmult) := rfl
theorem Encodable.wrCfgActiveOsc0Fmult (v : U32) : Encodable.Statement (.wrCfgActiveOsc0Fmult v) := rfl
theorem Encodable.rdCfgActiveOsc0Gain : Encodable.Statement (.rdCfgActiveOsc0Gain) := rfl
theorem Encodable.wrCfgActiveOsc0Gain (v : U32) : Encodable.Statement (.wrCfgActiveOsc0Gain v) := rfl
theorem Encodable.rdCfgActiveOsc1Ctrl : Encodable.Statement (.rdCfgActiveOsc1Ctrl) := rfl
theorem Encodable.wrCfgActiveOsc1Ctrl (v : U32) : Encodable.Statement (.wrCfgActiveOsc1Ctrl v) := rfl
theorem Encodable.rdCfgActiveOsc1Fmult : Encodable.Statement (.rdCfgActiveOsc1Fmult) := rfl
theorem Encodable.wrCfgActiveOsc1Fmult (v : U32) : Encodable.Statement (.wrCfgActiveOsc1Fmult v) := rfl
theorem Encodable.rdCfgActiveOsc1Gain : Encodable.Statement (.rdCfgActiveOsc1Gain) := rfl
theorem Encodable.wrCfgActiveOsc1Gain (v : U32) : Encodable.Statement (.wrCfgActiveOsc1Gain v) := rfl
theorem Encodable.rdCfgActiveOsc2Ctrl : Encodable.Statement (.rdCfgActiveOsc2Ctrl) := rfl
theorem Encodable.wrCfgActiveOsc2Ctrl (v : U32) : Encodable.Statement (.wrCfgActiveOsc2Ctrl v) := rfl
theorem Encodable.rdCfgActiveOsc2Fmult : Encodable.Statement (.rdCfgActiveOsc2Fmult) := rfl
theorem Encodable.wrCfgActiveOsc2Fmult (v : U32) : Encodable.Statement (.wrCfgActiveOsc2Fmult v) := rfl
theorem Encodable.rdCfgActiveOsc2Gain : Encodable.Statement (.rdCfgActiveOsc2Gain) := rfl
theorem Encodable.wrCfgActiveOsc2Gain (v : U32) : Encodable.Statement (.wrCfgActiveOsc2Gain v) := rfl
theorem Encodable.rdCfgActiveEnvAttack : Encodable.Statement (.rdCfgActiveEnvAttack) := rfl
theorem Encodable.wrCfgActiveEnvAttack (v : U32) : Encodable.Statement (.wrCfgActiveEnvAttack v) := rfl
theorem Encodable.rdCfgActiveEnvDecay : Encodable.Statement (.rdCfgActiveEnvDecay) := rfl
theorem Encodable.wrCfgActiveEnvDecay (v : U32) : Encodable.Statement (.wrCfgActiveEnvDecay v) := rfl
theorem Encodable.rdCfgActiveEnvSustain : Encodable.Statement (.rdCfgActiveEnvSustain) := rfl
theorem Encodable.wrCfgActiveEnvSustain (v : U32) : Encodable.Statement (.wrCfgActiveEnvSustain v) := rfl
theorem Encodable.rdCfgActiveEnvRelease : Encodable.Statement (.rdCfgActiveEnvRelease) := rfl
theorem Encodable.wrCfgActiveEnvRelease (v : U32) : Encodable.Statement (.wrCfgActiveEnvRelease v) := rfl
theorem Encodable.rdCfgActiveBoostPre : Encodable.Statement (.rdCfgActiveBoostPre) := rfl
theorem Encodable.wrCfgActiveBoostPre (v : U32) : Encodable.Statement (.wrCfgActiveBoostPre v) := rfl
theorem Encodable.rdCfgActiveBoostPost : Encodable.Statement (.rdCfgActiveBoostPost) := rfl
theorem Encodable.wrCfgActiveBoostPost (v : U32) : Encodable.Statement (.wrCfgActiveBoostPost v) := rfl
theorem Encodable.rdCfgActiveFiltCtrl : Encodable.Statement (.rdCfgActiveFiltCtrl) := rfl
theorem Encodable.wrCfgActiveFiltCtrl (v : U32) : Encodable.Statement (.wrCfgActiveFiltCtrl v) := rfl
theorem Encodable.rdCfgActiveFiltCutoff : Encodable.Statement (.rdCfgActiveFiltCutoff) := rfl
theorem Encodable.wrCfgActiveFiltCutoff (v : U32) : Encodable.Statement (.wrCfgActiveFiltCutoff v) := rfl
theorem Encodable.rdCfgActiveFiltRes : Encodable.Statement (.rdCfgActiveFiltRes) := rfl
theorem Encodable.wrCfgActiveFiltRes (v : U32) : Encodable.Statement (.wrCfgActiveFiltRes v) := rfl
theorem Encodable.rdCfgActiveFiltContour : Encodable.Statement (.rdCfgActiveFiltContour) := rfl
theorem Encodable.wrCfgActiveFiltContour (v : U32) : Encodable.Statement (.wrCfgActiveFiltContour v) := rfl
theorem Encodable.wrCfgCommit (v : U32) : Encodable.Statement (.wrCfgCommit v) := rfl
theorem Encodable.rdCfgCommit : Encodable.Statement (.rdCfgCommit) := rfl
theorem Encodable.rdMboxStatus : Encodable.Statement (.rdMboxStatus) := rfl
theorem Encodable.wrMboxStatus (v : U32) : Encodable.Statement (.wrMboxStatus v) := rfl
theorem Encodable.wrEvtPush (v : U32) : Encodable.Statement (.wrEvtPush v) := rfl
theorem Encodable.rdEvtPush : Encodable.Statement (.rdEvtPush) := rfl
theorem Encodable.rdEvtStatus : Encodable.Statement (.rdEvtStatus) := rfl
theorem Encodable.wrEvtStatus (v : U32) : Encodable.Statement (.wrEvtStatus v) := rfl
theorem Encodable.rdVoiceStatus : Encodable.Statement (.rdVoiceStatus) := rfl
theorem Encodable.wrVoiceStatus (v : U32) : Encodable.Statement (.wrVoiceStatus v) := rfl
theorem Encodable.rdEnvValue : Encodable.Statement (.rdEnvValue) := rfl
theorem Encodable.wrEnvValue (v : U32) : Encodable.Statement (.wrEnvValue v) := rfl
theorem Encodable.rdArpCounter : Encodable.Statement (.rdArpCounter) := rfl
theorem Encodable.wrArpCounter (v : U32) : Encodable.Statement (.wrArpCounter v) := rfl
theorem Encodable.rdArpLastMs : Encodable.Statement (.rdArpLastMs) := rfl
theorem Encodable.wrArpLastMs (v : U32) : Encodable.Statement (.wrArpLastMs v) := rfl
theorem Encodable.rdTrkSlots0 : Encodable.Statement (.rdTrkSlots0) := rfl
theorem Encodable.wrTrkSlots0 (v : U32) : Encodable.Statement (.wrTrkSlots0 v) := rfl
theorem Encodable.rdTrkSlots1 : Encodable.Statement (.rdTrkSlots1) := rfl
theorem Encodable.wrTrkSlots1 (v : U32) : Encodable.Statement (.wrTrkSlots1 v) := rfl
theorem Encodable.rdOscPhase0 : Encodable.Statement (.rdOscPhase0) := rfl
theorem Encodable.wrOscPhase0 (v : U32) : Encodable.Statement (.wrOscPhase0 v) := rfl
theorem Encodable.rdOscPhase1 : Encodable.Statement (.rdOscPhase1) := rfl
theorem Encodable.wrOscPhase1 (v : U32) : Encodable.Statement (.wrOscPhase1 v) := rfl
theorem Encodable.rdOscPhase2 : Encodable.Statement (.rdOscPhase2) := rfl
theorem Encodable.wrOscPhase2 (v : U32) : Encodable.Statement (.wrOscPhase2 v) := rfl
theorem Encodable.rdFiltState : Encodable.Statement (.rdFiltState) := rfl
theorem Encodable.wrFiltState (v : U32) : Encodable.Statement (.wrFiltState v) := rfl
theorem Encodable.rdFiltFc : Encodable.Statement (.rdFiltFc) := rfl
theorem Encodable.wrFiltFc (v : U32) : Encodable.Statement (.wrFiltFc v) := rfl
theorem Encodable.rdEnvArate : Encodable.Statement (.rdEnvArate) := rfl
theorem Encodable.wrEnvArate (v : U32) : Encodable.Statement (.wrEnvArate v) := rfl
theorem Encodable.rdEnvDrate : Encodable.Statement (.rdEnvDrate) := rfl
theorem Encodable.wrEnvDrate (v : U32) : Encodable.Statement (.wrEnvDrate v) := rfl
theorem Encodable.rdEnvRrate : Encodable.Statement (.rdEnvRrate) := rfl
theorem Encodable.wrEnvRrate (v : U32) : Encodable.Statement (.wrEnvRrate v) := rfl
theorem Encodable.rdEnvSus : Encodable.Statement (.rdEnvSus) := rfl
theorem Encodable.wrEnvSus (v : U32) : Encodable.Statement (.wrEnvSus v) := rfl
theorem Encodable.wrTrkQuery (v : U32) : Encodable.Statement (.wrTrkQuery v) := rfl
theorem Encodable.rdTrkQuery : Encodable.Statement (.rdTrkQuery) := rfl
theorem Encodable.rdReserved (addr : Offset) : Encodable.Statement (.rdReserved addr) := rfl
theorem Encodable.wrReserved (addr : Offset) (v : U32) : Encodable.Statement (.wrReserved addr v) := rfl
theorem Encodable.busError (a : HostAccess) : Encodable.Statement (.busError a) := rfl
theorem Encodable.tick (now : U32) : Encodable.Statement (.tick now) := rfl
theorem Encodable.waveSine (p : F32) : Encodable.Statement (.waveSine p) := rfl
theorem Encodable.waveSaw (p : F32) : Encodable.Statement (.waveSaw p) := rfl
theorem Encodable.waveSquare (p : F32) : Encodable.Statement (.waveSquare p) := rfl
theorem Encodable.waveTriangle (p : F32) : Encodable.Statement (.waveTriangle p) := rfl
theorem Encodable.evtKind (w : U32) : Encodable.Statement (.evtKind w) := rfl
theorem Encodable.trkPush (note : U8) : Encodable.Statement (.trkPush note) := rfl
theorem Encodable.trkMostRecent : Encodable.Statement (.trkMostRecent) := rfl
theorem Encodable.trkSmallest : Encodable.Statement (.trkSmallest) := rfl
theorem Encodable.trkRightOf (x : U8) : Encodable.Statement (.trkRightOf x) := rfl
theorem Encodable.trkPop (note : U8) : Encodable.Statement (.trkPop note) := rfl
theorem Encodable.trkLength : Encodable.Statement (.trkLength) := rfl
theorem Encodable.trkAt (i : Nat) : Encodable.Statement (.trkAt i) := rfl
theorem Encodable.arpPeriod (a : ArpCfg) : Encodable.Statement (.arpPeriod a) := rfl
theorem Encodable.arpStep (a : ArpCfg) (now : U32) : Encodable.Statement (.arpStep a now) := rfl
theorem Encodable.arpClear : Encodable.Statement (.arpClear) := rfl
theorem Encodable.arpIndex : Encodable.Statement (.arpIndex) := rfl
theorem Encodable.dt (note : U8) : Encodable.Statement (.dt note) := rfl
theorem Encodable.wave (sel : BitVec 2) (p : F32) : Encodable.Statement (.wave sel p) := rfl
theorem Encodable.oscStep (i : Fin 3) (dt : F32) : Encodable.Statement (.oscStep i dt) := rfl
theorem Encodable.envSetRates (e : EnvCfg) : Encodable.Statement (.envSetRates e) := rfl
theorem Encodable.envStep : Encodable.Statement (.envStep) := rfl
theorem Encodable.envStageOff : Encodable.Statement (.envStageOff) := rfl
theorem Encodable.envStageAttack : Encodable.Statement (.envStageAttack) := rfl
theorem Encodable.envStageDecay : Encodable.Statement (.envStageDecay) := rfl
theorem Encodable.envStageSustain : Encodable.Statement (.envStageSustain) := rfl
theorem Encodable.envStageRelease : Encodable.Statement (.envStageRelease) := rfl
theorem Encodable.envTriggerOn : Encodable.Statement (.envTriggerOn) := rfl
theorem Encodable.envTriggerOff : Encodable.Statement (.envTriggerOff) := rfl
theorem Encodable.filtTarget (c : FiltCfg) (e : F32) : Encodable.Statement (.filtTarget c e) := rfl
theorem Encodable.filtSmooth (t : F32) : Encodable.Statement (.filtSmooth t) := rfl
theorem Encodable.filtK (c : FiltCfg) : Encodable.Statement (.filtK c) := rfl
theorem Encodable.filtSample (x : F32) (e : F32) : Encodable.Statement (.filtSample x e) := rfl
theorem Encodable.satHard (x : F32) : Encodable.Statement (.satHard x) := rfl
theorem Encodable.satSoft (x : F32) : Encodable.Statement (.satSoft x) := rfl
theorem Encodable.boostChain (x : F32) : Encodable.Statement (.boostChain x) := rfl
theorem Encodable.adopt : Encodable.Statement (.adopt) := rfl
theorem Encodable.drain : Encodable.Statement (.drain) := rfl
theorem Encodable.emptyVoice : Encodable.Statement (.emptyVoice) := rfl
theorem Encodable.selectNote (now : U32) : Encodable.Statement (.selectNote now) := rfl
theorem Encodable.retrigger (n : U8) : Encodable.Statement (.retrigger n) := rfl
theorem Encodable.setRatesStep : Encodable.Statement (.setRatesStep) := rfl
theorem Encodable.sample (dt : F32) : Encodable.Statement (.sample dt) := rfl
theorem Encodable.emit (x : F32) : Encodable.Statement (.emit x) := rfl

end Sys2Proof.Laws
end

