-- ==== Sys2Proof/Laws/Registers.lean ====
section
/-! SUPPORT. What a frame of any kind can do: a read or a write of any offset, an event word, a selector word. -/

namespace Sys2Proof.Machine

-- One theorem at a time: many at once ask for more threads than the memory limit of the check leaves room for.
set_option Elab.async false

/-- `i` answers the host a value that does not depend on the last answer, and changes nothing else. -/
abbrev ActsAsRead (i : Instr) : Prop :=
  ∀ s, ∃ d, exec i s = .next (hostRead d s) ∧ ∀ x e, exec i { s with hostData := x, hostErr := e } = .next (hostRead d s)

/-- `i` leaves all but the host's side of the VE alone, gets no error response, and keeps the reserved staging bits zero
and the queue within its capacity. -/
abbrev ActsAsWrite (i : Instr) : Prop :=
  ∀ s, ∃ stage slot pending q ovf arg, exec i s = .next { s with
    cfgStage := stage, mboxSlot := slot, mboxPending := pending, evq := q, evqOvf := ovf, trkQueryArg := arg, hostErr := false } ∧
    (stageOk s → ∀ k : Fin 22, stage[k] &&& cfgMask k = stage[k]) ∧ (queueOk s → q.length ≤ Config.evqDepth)

theorem readTable_exec : ∀ row ∈ readTable, ActsAsRead row.2 := by
  simp only [readTable, readTable0, readTable1, readTable2, List.forall_mem_append]
  refine ⟨⟨?_, ?_⟩, ?_⟩
  all_goals
    repeat (refine List.forall_mem_cons.2 ⟨fun s => ⟨_, rfl, fun _ _ => rfl⟩, ?_⟩)
    exact List.forall_mem_nil _

/-- An aligned read of any offset (R71, R73). -/
theorem decodeRead_exec (addr : Offset) : ActsAsRead (decodeRead addr) := by
  rcases decodeRead_cases addr with h | ⟨_, h⟩
  · exact readTable_exec _ h
  · rw [h]; exact fun s => ⟨0, rfl, fun _ _ => rfl⟩

theorem evtPush_write (v : U32) : ActsAsWrite (.wrEvtPush v) := by
  intro s
  refine ⟨s.cfgStage, s.mboxSlot, s.mboxPending, (evtPush v s).evq, (evtPush v s).evqOvf, s.trkQueryArg, ?_, fun h => h, evtPush_queueOk v⟩
  show Host.Outcome.next (hostWrote (evtPush v s)) = _
  rw [evtPush_frame]
  rfl

theorem evtStatus_write (v : U32) : ActsAsWrite (.wrEvtStatus v) := by
  intro s
  refine ⟨s.cfgStage, s.mboxSlot, s.mboxPending, s.evq, (evtStatusWrite v s).evqOvf, s.trkQueryArg, ?_, fun h => h, fun h => h⟩
  show Host.Outcome.next (hostWrote (evtStatusWrite v s)) = _
  rw [evtStatusWrite_frame]
  rfl

theorem writeTable_exec (v : U32) : ∀ row ∈ writeTable, ActsAsWrite (row.2 v) := by
  simp only [writeTable, writeTable0, writeTable1, writeTable2, List.forall_mem_append]
  refine ⟨⟨?_, ?_⟩, ?_⟩
  all_goals
    repeat (first
      | refine List.forall_mem_cons.2 ⟨fun s => ⟨_, _, _, _, _, _, rfl, fun h => h, fun h => h⟩, ?_⟩
      | refine List.forall_mem_cons.2 ⟨fun s => ⟨_, _, _, _, _, _, rfl, stageWrite_stageOk _ v, fun h => h⟩, ?_⟩
      | refine List.forall_mem_cons.2 ⟨evtPush_write v, ?_⟩
      | refine List.forall_mem_cons.2 ⟨evtStatus_write v, ?_⟩)
    exact List.forall_mem_nil _

/-- An aligned write of any offset (R71, R73, R252 to R260). -/
theorem decodeWrite_exec (addr : Offset) (v : U32) : ActsAsWrite (decodeWrite addr v) := by
  rcases decodeWrite_cases addr v with ⟨row, hm, _, h⟩ | ⟨_, h⟩
  · rw [h]; exact writeTable_exec v row hm
  · rw [h]; exact fun s => ⟨_, _, _, _, _, _, rfl, fun h => h, fun h => h⟩

/-! ## Event and selector words -/

/-- The four kinds of an event word, as EVT_KIND and as the decoder see them (R92). -/
theorem evtKind_cases (w : U32) :
    (evtStatus w = 8 ∧ evtKind w = .noteOff ∧
      decodeEvent w = .noteOff (evtChan w) (evtPitch w) (w.getLsbD 15) (evtVel w) (w.getLsbD 23) (evtByte3 w)) ∨
    (evtStatus w = 9 ∧ evtVel w = 0 ∧ evtKind w = .noteOff ∧
      decodeEvent w = .noteOnVel0 (evtChan w) (evtPitch w) (w.getLsbD 15) (w.getLsbD 23) (evtByte3 w)) ∨
    (evtStatus w = 9 ∧ evtVel w ≠ 0 ∧ evtKind w = .noteOn ∧
      decodeEvent w = .noteOn (evtChan w) (evtPitch w) (w.getLsbD 15) (evtVel w) (w.getLsbD 23) (evtByte3 w)) ∨
    (evtStatus w ≠ 8 ∧ evtStatus w ≠ 9 ∧ evtKind w = .ignore ∧ decodeEvent w =
      .evtIgnore (evtChan w) (evtStatus w) (evtPitch w) (w.getLsbD 15) (evtVel w) (w.getLsbD 23) (evtByte3 w)) := by
  unfold evtKind decodeEvent
  by_cases h8 : evtStatus w = 8
  · rw [if_pos h8, if_pos h8]; exact .inl ⟨h8, rfl, rfl⟩
  · rw [if_neg h8, if_neg h8]
    by_cases h9 : evtStatus w = 9
    · by_cases hv : evtVel w = 0
      · rw [if_pos ⟨h9, hv⟩, if_pos h9, if_pos hv]; exact .inr (.inl ⟨h9, hv, rfl, rfl⟩)
      · rw [if_neg (fun h => hv h.2), if_pos h9, if_pos h9, if_neg hv]; exact .inr (.inr (.inl ⟨h9, hv, rfl, rfl⟩))
    · rw [if_neg (fun h => h9 h.1), if_neg h9, if_neg h9]; exact .inr (.inr (.inr ⟨h8, h9, rfl, rfl⟩))

/-- An event word run as a frame does what the drain does with it (R243). -/
theorem exec_event (w : U32) (s : State) : exec (decode (.event w)) s = .next (applyEvent w s) := by
  show exec (decodeEvent w) s = _
  unfold applyEvent
  rcases evtKind_cases w with ⟨_, k, d⟩ | ⟨_, _, k, d⟩ | ⟨_, _, k, d⟩ | ⟨_, _, k, d⟩ <;> rw [k, d] <;> rfl

/-- A selector word run as a frame returns a value and changes nothing else (R113). -/
theorem exec_wave (ctrl p : U32) (s : State) : ∃ r, exec (decode (.wave ctrl p)) s = .next { s with result := r } := by
  show ∃ r, exec (decodeWave _ p) s = _
  unfold decodeWave
  split
  · exact ⟨_, rfl⟩
  · split
    · exact ⟨_, rfl⟩
    · split <;> exact ⟨_, rfl⟩

end Sys2Proof.Machine
end

