-- ==== Sys2Proof/Laws/Rounding.lean ====
section
/-! SUPPORT. What `roundMag` does: the nearest pattern, the even one on a tie, infinity from the middle above the largest
finite value on (00_scope.md R11). -/

namespace Sys2Proof.Machine

-- One theorem at a time: many at once ask for more threads than the memory limit of the check leaves room for.
set_option Elab.async false

/-- The magnitude of significand `q` at shift `e`. -/
theorem patMag_shift {e q : Nat} (h : q ≤ 2 ^ 24) (h0 : e = 0 ∨ 2 ^ 23 ≤ q) : patMag (e * 2 ^ 23 + q) = q * 2 ^ e := by
  by_cases hq : q < 2 ^ 23
  · have he : e = 0 := by omega
    subst he
    rw [patMag, if_pos (by omega)]; simp
  · rw [patMag, if_neg (by omega)]
    by_cases h1 : q = 2 ^ 24
    · subst h1
      rw [show (e * 2 ^ 23 + 2 ^ 24) % 2 ^ 23 = 0 by omega, show (e * 2 ^ 23 + 2 ^ 24) / 2 ^ 23 - 1 = e + 1 by omega, pow_succ]
      ring
    · rw [show 2 ^ 23 + (e * 2 ^ 23 + q) % 2 ^ 23 = q by omega, show (e * 2 ^ 23 + q) / 2 ^ 23 - 1 = e by omega]

/-- `roundMag` picks, of the two neighbouring patterns around the quotient, the nearer one, and the even one on a tie. -/
theorem roundMag_bracket (num : Nat) {den : Nat} (hd : 0 < den) : ∃ k,
    patMag k * den ≤ num ∧ num < patMag (k + 1) * den ∧
    roundMag num den = min (if patMag k * den + patMag (k + 1) * den < 2 * num ∨
      (patMag k * den + patMag (k + 1) * den = 2 * num ∧ k % 2 = 1) then k + 1 else k) 0x7F800000 := by
  obtain ⟨h1, h2⟩ := quotient_bounds num den
  rw [roundMag_eq]
  generalize Nat.log2 (num / den) - 23 = e at *
  have hu : 0 < den * 2 ^ e := Nat.mul_pos hd (Nat.two_pow_pos _)
  have hdm := Nat.div_add_mod num (den * 2 ^ e)
  have hlt := Nat.mod_lt num hu
  unfold nearestUnits
  generalize hq : num / (den * 2 ^ e) = q at *
  generalize hr : num % (den * 2 ^ e) = r at *
  have a : patMag (e * 2 ^ 23 + q) * den = den * 2 ^ e * q := by
    rw [patMag_shift (by omega) (by omega)]; ring
  have b : patMag (e * 2 ^ 23 + q + 1) * den = den * 2 ^ e * q + den * 2 ^ e := by
    rw [add_assoc, patMag_shift (by omega) (by omega)]; ring
  refine ⟨e * 2 ^ 23 + q, by omega, by omega, ?_⟩
  rw [a, b]
  have hp : (e * 2 ^ 23 + q) % 2 = q % 2 := by omega
  rw [hp]
  generalize den * 2 ^ e * q = A at *
  generalize den * 2 ^ e = U at *
  congr 1
  by_cases hc : U < 2 * r ∨ (2 * r = U ∧ q % 2 = 1)
  · rw [if_pos hc, if_pos (by omega)]; omega
  · rw [if_neg hc, if_neg (by omega)]

theorem patMag_max : patMag 0x7F7FFFFF = (2 ^ 24 - 1) * 2 ^ 253 := by decide +kernel
theorem patMag_over : patMag 0x7F800000 = 2 ^ 24 * 2 ^ 253 := by decide +kernel

/-- When rounding stays finite: below the largest finite value plus half a unit. -/
theorem roundMag_finite_iff (num : Nat) {den : Nat} (hd : 0 < den) :
    roundMag num den < 0x7F800000 ↔ num < (2 ^ 25 - 1) * 2 ^ 252 * den := by
  obtain ⟨k, h1, h2, h3⟩ := roundMag_bracket num hd
  have hm : patMag 0x7F7FFFFF * den + patMag 0x7F800000 * den = 2 * ((2 ^ 25 - 1) * 2 ^ 252 * den) := by
    rw [patMag_max, patMag_over]; ring
  rcases Nat.lt_trichotomy k 0x7F7FFFFF with hk | hk | hk
  · have hle : patMag (k + 1) * den ≤ patMag 0x7F7FFFFF * den := Nat.mul_le_mul_right _ (patMag_le_iff.2 (by omega))
    have hle2 : patMag 0x7F7FFFFF * den ≤ patMag 0x7F800000 * den := Nat.mul_le_mul_right _ (patMag_le_iff.2 (by omega))
    refine ⟨fun _ => by omega, fun _ => ?_⟩
    rw [h3]; split <;> omega
  · subst hk
    rw [show 0x7F7FFFFF + 1 = 0x7F800000 from rfl] at h2 h3
    rw [h3]
    constructor
    · intro h
      split at h
      · omega
      · omega
    · intro h
      rw [if_neg (by omega)]; omega
  · have hle : patMag 0x7F800000 * den ≤ patMag k * den := Nat.mul_le_mul_right _ (patMag_le_iff.2 (by omega))
    have hle2 : patMag 0x7F7FFFFF * den ≤ patMag 0x7F800000 * den := Nat.mul_le_mul_right _ (patMag_le_iff.2 (by omega))
    refine ⟨fun h => ?_, fun _ => by omega⟩
    rw [h3] at h; split at h <;> omega

/-- A finite `roundMag` is a pattern nearest to the quotient, and even if another is as near. -/
theorem roundMag_nearest (num : Nat) {den : Nat} (hd : 0 < den) (hf : roundMag num den < 0x7F800000) (j : Nat) :
    ((patMag (roundMag num den) * den : Nat) - num : Int).natAbs ≤ ((patMag j * den : Nat) - num : Int).natAbs ∧
    (((patMag j * den : Nat) - num : Int).natAbs = ((patMag (roundMag num den) * den : Nat) - num : Int).natAbs →
      j ≠ roundMag num den → roundMag num den % 2 = 0) := by
  obtain ⟨k, h1, h2, h3⟩ := roundMag_bracket num hd
  have hinj : ∀ a b, a ≤ b → patMag a * den ≤ patMag b * den := fun a b h => Nat.mul_le_mul_right _ (patMag_le_iff.2 h)
  have hstrict : ∀ a b, a < b → patMag a * den < patMag b * den :=
    fun a b h => Nat.mul_lt_mul_of_pos_right (patMag_lt_iff.2 h) hd
  split at h3
  · next hc =>
    have hr : roundMag num den = k + 1 := by omega
    rw [hr]
    rcases Nat.lt_trichotomy j k with hj | hj | hj
    · have := hstrict _ _ hj; omega
    · subst hj; omega
    · rcases Nat.lt_or_ge (k + 1) j with hj | hj
      · have := hstrict _ _ hj; omega
      · have : j = k + 1 := by omega
        subst this; omega
  · next hc =>
    have hr : roundMag num den = k := by omega
    rw [hr]
    rcases Nat.lt_trichotomy j k with hj | hj | hj
    · have := hstrict _ _ hj; omega
    · subst hj; omega
    · rcases Nat.lt_or_ge (k + 1) j with hj | hj
      · have := hstrict _ _ hj; omega
      · have : j = k + 1 := by omega
        subst this; omega

/-- The word packed from a sign and a rounded magnitude is the rounding of the signed quotient. -/
theorem pack_roundsTo (neg : Bool) (num : Nat) {den : Nat} (hd : 0 < den) :
    roundsTo (if neg then -(num : Int) else num) den (fPack neg (roundMag num den)) := by
  have hle := roundMag_le_inf num den
  have hn0 : (if neg then -(num : Int) else num).natAbs = num := by cases neg <;> simp
  have hfin : fIsFinite (fPack neg (roundMag num den)) = true ↔ roundMag num den < 0x7F800000 := by
    rw [fIsFinite_iff, fPack_toNat neg (by omega)]
    cases neg <;> simp <;> omega
  refine ⟨fPack_not_nan _ hle, ?_, fun hf z hz => ?_⟩
  · rw [hfin, roundMag_finite_iff num hd, hn0, Int.natAbs_natCast]
  rw [hfin] at hf
  have key := roundMag_nearest num hd hf
  have hbit : (fPack neg (roundMag num den)).getLsbD 0 = decide (roundMag num den % 2 = 1) := by
    rw [BitVec.getLsbD, fPack_toNat neg (by omega), Nat.testBit_zero]
    cases neg <;> simp <;> omega
  have hz' : fScaled z = if fSign z then -(patMag (z.toNat % 2 ^ 31) : Int) else patMag (z.toNat % 2 ^ 31) := by
    rw [fScaled, fMag_eq]
  rw [fScaled_fPack _ (by omega), hbit, hz']
  generalize z.toNat % 2 ^ 31 = j
  obtain ⟨a1, a2⟩ := key j
  obtain ⟨b1, b2⟩ := key 0
  rw [patMag_zero, zero_mul] at b1 b2
  have hj0 : patMag j * den = 0 → j = 0 := fun h => by
    rcases Nat.mul_eq_zero.1 h with h | h
    · exact patMag_eq_zero.1 h
    · omega
  have hk : ∀ i, patMag i = patMag j → i = j := fun i h => patMag_strictMono.injective h
  generalize hr : roundMag num den = k at *
  have e1 : ∀ p : Nat, ((p * den : Nat) : Int) = (p : Int) * den := fun p => by push_cast; rfl
  rw [e1] at a1 a2 b1 b2
  rw [e1] at a1 a2
  have hJ : (patMag j : Int) * den = 0 → j = 0 := fun h => hj0 (by exact_mod_cast h)
  have hJ0 : 0 ≤ (patMag j : Int) * den := by positivity
  generalize hJe : (patMag j : Int) * den = J at *
  generalize hKe : (patMag k : Int) * den = K at *
  cases hs : neg <;> cases ht : fSign z <;> simp only [Bool.false_eq_true, if_false, if_true, neg_mul, hJe, hKe]
  · refine ⟨a1, fun h h1 => ?_⟩
    have := a2 h (fun h => h1 (by rw [h])); simp; omega
  · refine ⟨by omega, fun h h1 => ?_⟩
    have hz : j = 0 := hJ (by omega)
    subst hz
    have := b2 (by omega) (fun h => h1 (by rw [← h]; simp)); simp; omega
  · refine ⟨by omega, fun h h1 => ?_⟩
    have hz : j = 0 := hJ (by omega)
    subst hz
    have := b2 (by omega) (fun h => h1 (by rw [← h]; simp)); simp; omega
  · refine ⟨by omega, fun h h1 => ?_⟩
    have := a2 (by omega) (fun h => h1 (by rw [h])); simp; omega

theorem roundsTo_neg {num den : Int} {r : F32} (h : roundsTo num den r) : roundsTo (-num) (-den) r := by
  unfold roundsTo at *
  have e : ∀ a : Int, (a * -den - -num).natAbs = (a * den - num).natAbs := fun a => by
    rw [← Int.natAbs_neg]; congr 1; ring
  simpa only [Int.natAbs_neg, e] using h

/-- The rounding of an integer number of units. -/
theorem fRoundInt_roundsTo {z : F32} (hz : z = fZero ∨ z = fNegZero) (v : Int) : roundsTo v 1 (fRoundInt z v) := by
  by_cases h0 : v = 0
  · subst h0
    have := fun b => pack_roundsTo b 0 (den := 1) one_pos
    rw [roundMag_zero] at this
    rcases hz with rfl | rfl
    · exact this false
    · exact this true
  · have h := pack_roundsTo (decide (v < 0)) v.natAbs (den := 1) one_pos
    have hv : (if decide (v < 0) then -((v.natAbs : Nat) : Int) else ((v.natAbs : Nat) : Int)) = v := by
      by_cases h : v < 0
      · rw [if_pos (by simpa using h)]; omega
      · rw [if_neg (by simpa using h)]; omega
    rw [hv] at h
    rw [fRoundInt, if_neg h0]
    exact h

end Sys2Proof.Machine
end

