-- ==== Sys2Proof/Laws/Steps.lean ====
section
/-! SUPPORT. What a whole tick keeps, and everything one step can do. -/

namespace Sys2Proof.Machine

-- One theorem at a time: many at once ask for more threads than the memory limit of the check leaves room for.
set_option Elab.async false

/-! ## A tick -/

theorem drain_adopt_trackerOk {s : State} (h : trackerOk s) : trackerOk (drain (adopt s)) :=
  drainWords_trackerOk _ (trackerOk_congr (by rw [adopt_frame]) (by rw [adopt_frame]) h)

theorem drain_adopt_pitches {s : State} (h : notesArePitches s) : notesArePitches (drain (adopt s)) := by
  refine drainWords_pitches _ ?_
  intro n hn
  rw [heldNotes_congr (s := s) (by rw [adopt_frame]) (by rw [adopt_frame])] at hn
  exact h n hn

theorem tickControl_cfg (now : U32) (s : State) : (tickControl now s).cfgActive = (adopt s).cfgActive := by
  rw [tickControl_frame]

/-- After the control half the voice is enabled with a held pitch, or keeps its note and is disabled. -/
theorem tickControl_voiceOk (now : U32) {s : State} (hn : notesArePitches s) (hv : voiceOk s) :
    voiceOk (tickControl now s) := by
  rw [voiceOk, tickControl_voiceNote, tickControl_voiceEn]
  by_cases h : (drain (adopt s)).trkLen = 0
  · rw [if_pos h]
    exact ⟨hv.1, fun h1 => absurd h (of_decide_eq_true h1)⟩
  · rw [if_neg h]
    have hp := drain_adopt_pitches hn _ (selectNote_mem (now := now) h)
    exact ⟨.inl hp, fun _ h1 => by rw [h1] at hp; exact absurd hp (by decide)⟩

/-- What the control half hands to the samples. -/
theorem tickControl_ratesOk (now : U32) {s : State} (hc : configOk s) : ratesOk (tickControl now s) := by
  obtain ⟨a, d, u, r⟩ := legalEnv_between (configOk_env (adopt_configOk hc))
  rw [tickControl_frame]
  exact ⟨u, rate_unit (envRate_between a), rate_unit (envRate_between d), rate_unit (envRate_between r)⟩

theorem tickControl_envOk (now : U32) {s : State} (h : envOk s) : envOk (tickControl now s) := by
  have hst : (tickControl now s).envStage = .off → s.envStage = .off := by
    intro h1
    have h2 := chooseNote_off (now := now) (s := drain (adopt s)) h1
    rw [drain_frame, adopt_frame] at h2
    exact h2
  have hv : (tickControl now s).envValue = s.envValue := by rw [tickControl_frame]
  rw [envOk, hv]
  exact ⟨h.1, h.2.1, fun h1 => h.2.2 (hst h1)⟩

theorem tickControl_sampleOk (now : U32) {s : State} (hc : configOk s) (hp : phasesOk s) (he : envOk s) :
    sampleOk (tickControl now s) := by
  refine ⟨?_, ?_, tickControl_envOk now he, tickControl_ratesOk now hc⟩
  · rw [configOk, tickControl_cfg]; exact adopt_configOk hc
  · rw [tickControl_frame]; exact hp

theorem tickControl_dt (now : U32) {s : State} (hn : notesArePitches s) (hv : voiceOk s) :
    between fZero (dtOf (tickControl now s).voiceNote) fOne :=
  dtOf_between (tickControl_voiceOk now hn hv).1

/-- A tick keeps the control invariants. -/
theorem tickWith_controlOk (n : Nat) (tan : F32 → F32) (now : U32) {s : State} (h : controlOk s) :
    controlOk (tickWith n tan now s) := by
  obtain ⟨ht, hn, hq, hs, hc, hv⟩ := h
  obtain ⟨ph, v, st, fc, fs, xs, e, _⟩ := tickWith_frame n tan now s
  have hslot : (tickControl now s).trkSlot = (drain (adopt s)).trkSlot := by rw [tickControl_frame]
  have hlen : (tickControl now s).trkLen = (drain (adopt s)).trkLen := by rw [tickControl_frame]
  have hvo := tickControl_voiceOk now hn hv
  have hco : configOk (tickControl now s) := by rw [configOk, tickControl_cfg]; exact adopt_configOk hc
  have hqo : queueOk (tickControl now s) := by rw [tickControl_frame]; exact Nat.zero_le _
  have hso : stageOk (tickControl now s) := by rw [tickControl_frame]; exact hs
  rw [e]
  refine ⟨trackerOk_congr hslot hlen (drain_adopt_trackerOk ht), ?_, hqo, hso, hco, hvo⟩
  intro m hm
  have hm : m ∈ heldNotes (tickControl now s) := hm
  rw [heldNotes_congr hslot hlen] at hm
  exact drain_adopt_pitches hn m hm

/-! ## A step -/

/-- Everything a step can do: nothing, without a frame; or with the next frame taken, one of the four kinds. -/
theorem step_cases {s t : State} (h : step s = .next t) : s.inbox = [] ∧ t = s ∨
    ∃ f rest, s.inbox = f :: rest ∧
      ((∃ now, t = tickWith Config.blockSize Config.numTan now { s with inbox := rest }) ∨
        (∃ w, t = applyEvent w { s with inbox := rest }) ∨
        (∃ r, t = { s with inbox := rest, result := r }) ∨
        (∃ a, t = hostBusError a { s with inbox := rest }) ∨
        (∃ d, t = hostRead d { s with inbox := rest }) ∨
        ∃ stage slot pending q ovf arg, t = { s with
          inbox := rest, cfgStage := stage, mboxSlot := slot, mboxPending := pending, evq := q, evqOvf := ovf
          trkQueryArg := arg, hostErr := false } ∧
          (stageOk s → ∀ k : Fin 22, stage[k] &&& cfgMask k = stage[k]) ∧ (queueOk s → q.length ≤ Config.evqDepth)) := by
  unfold step fetchFrame at h
  rcases hi : s.inbox with _ | ⟨f, rest⟩
  · rw [hi] at h; exact .inl ⟨rfl, (Host.Outcome.next.inj h).symm⟩
  · rw [hi] at h
    refine .inr ⟨f, rest, rfl, ?_⟩
    dsimp only at h
    cases f with
    | tick now => exact .inl ⟨now, (Host.Outcome.next.inj h).symm⟩
    | event w => exact .inr (.inl ⟨w, (Host.Outcome.next.inj (h.symm.trans (exec_event w _)))⟩)
    | wave c p =>
      obtain ⟨r, hr⟩ := exec_wave c p { s with inbox := rest }
      exact .inr (.inr (.inl ⟨r, Host.Outcome.next.inj (h.symm.trans hr)⟩))
    | access a =>
      by_cases ha : a.isLegal = true
      · cases a with
        | read addr size =>
          simp only [HostAccess.isLegal, Bool.and_eq_true, decide_eq_true_eq] at ha
          obtain ⟨rfl, h4⟩ := ha
          rw [decode_read h4] at h
          obtain ⟨d, hd, _⟩ := decodeRead_exec addr { s with inbox := rest }
          exact .inr (.inr (.inr (.inr (.inl ⟨d, Host.Outcome.next.inj (h.symm.trans hd)⟩))))
        | write addr size v =>
          simp only [HostAccess.isLegal, Bool.and_eq_true, decide_eq_true_eq] at ha
          obtain ⟨rfl, h4⟩ := ha
          rw [decode_write v h4] at h
          obtain ⟨a, b, c, d, e, g, hd, h1, h2⟩ := decodeWrite_exec addr v { s with inbox := rest }
          exact .inr (.inr (.inr (.inr (.inr ⟨a, b, c, d, e, g, Host.Outcome.next.inj (h.symm.trans hd), h1, h2⟩))))
      · rw [Bool.not_eq_true] at ha
        rw [decode_illegal ha] at h
        exact .inr (.inr (.inr (.inl ⟨a, (Host.Outcome.next.inj h).symm⟩)))

end Sys2Proof.Machine
end

