-- ==== Sys2Proof/Machine/Commands.lean ====
section
/-! DEFINITION. The host command syntax: the primitive commands (30_encoding.md R116) and the pseudo-commands with their
expansions (R117), as the frames a host issues. The text itself (comments, decimal or hex numbers) is not modelled. -/

namespace Sys2Proof.Machine

/-- `wr <off>, <v32>` (R116). -/
def cmdWr (addr : Offset) (v : U32) : Frame := .access (.write addr 4 v)

/-- `rd <off>` (R116). -/
def cmdRd (addr : Offset) : Frame := .access (.read addr 4)

/-- `tick <now_ms>` (R116). -/
def cmdTick (now : U32) : Frame := .tick now

/-- The bit fields a `stage <bitfield>` can name (R117). -/
inductive StageField where
  | arpEn | oscEn (i : Fin 3) | oscWave (i : Fin 3) | filtEn | filtContourEn
  deriving DecidableEq, Repr

/-- The CFG word of a bit field (R100): oscillator `i` has its control word at `3 + 3i`. -/
def fieldWord : StageField → Nat
  | .arpEn => 0
  | .oscEn i => 3 + 3 * i.val
  | .oscWave i => 3 + 3 * i.val
  | .filtEn => 18
  | .filtContourEn => 18

/-- The lowest bit of a bit field (R100). -/
def fieldLsb : StageField → Nat
  | .arpEn => 0
  | .oscEn _ => 0
  | .oscWave _ => 1
  | .filtEn => 0
  | .filtContourEn => 1

/-- `fmask`, the mask of a bit field (R100). -/
def fieldMask : StageField → U32
  | .arpEn => 0x00000001
  | .oscEn _ => 0x00000001
  | .oscWave _ => 0x00000006
  | .filtEn => 0x00000001
  | .filtContourEn => 0x00000002

/-- The offset of CFG_STAGE[k] (R75). -/
def stageOffset (k : Nat) : Offset := BitVec.ofNat 9 (4 * k)

/-- The pseudo-commands (R117), with the defaults of `note_on` and `note_off`. -/
inductive PseudoCommand where
  | noteOn (p : U32) (vel : U32 := 100) (ch : U32 := 0)
  | noteOff (p : U32) (ch : U32 := 0)
  | event (w : U32)
  | stageWord (k : Fin 22) (value : U32)
  | stageField (f : StageField) (value : U32)
  | commit
  | clrOvf
  | query (x : U32)
  deriving DecidableEq, Repr

/-- The expansion of a pseudo-command (R117). `old` is the value the first access of a bitfield `stage` read; that
read-modify-write is two accesses, not atomic. -/
def expandCommand (old : U32) : PseudoCommand → List Frame
  | .noteOn p vel ch => [cmdWr 0x088 (vel <<< 16 ||| p <<< 8 ||| 0x90 ||| ch)]
  | .noteOff p ch => [cmdWr 0x088 (p <<< 8 ||| 0x80 ||| ch)]
  | .event w => [cmdWr 0x088 w]
  | .stageWord k value => [cmdWr (stageOffset k.val) value]
  | .stageField f value =>
    [cmdRd (stageOffset (fieldWord f)),
     cmdWr (stageOffset (fieldWord f)) (old &&& ~~~fieldMask f ||| value <<< fieldLsb f &&& fieldMask f)]
  | .commit => [cmdWr 0x080 0]
  | .clrOvf => [cmdWr 0x08C 0x00010000]
  | .query x => [cmdWr 0x0A8 x, cmdRd 0x0A8]

end Sys2Proof.Machine
end

