-- ==== Sys2Proof/Tests/Slice0.lean ====
section
/-! SUPPORT. Tests of the model: ill-formed terms refused, words written out from the spec decoded, one step of each
operation on the values of 95_test_vectors.md, and for every statement with hypotheses a state that meets them. -/

namespace Sys2Proof.Tests

open Sys2Proof.Machine

-- One theorem at a time: many at once ask for more threads than the memory limit of the check leaves room for.
set_option Elab.async false

/-- The state of a next outcome. -/
def after (o : StepOutcome) : Option State :=
  match o with
  | .next t => some t
  | .fault f => nomatch f
  | .refused _ => none

/-- What an operation returned. -/
def resultOf (i : Instr) (s : State) : Option Result := (after (exec i s)).map (·.result)

/-- What a host read answered. -/
def answerOf (i : Instr) (s : State) : Option (U32 × Bool) := (after (exec i s)).map (fun t => (t.hostData, t.hostErr))

/-- The tracker after an operation. -/
def slotsAfter (i : Instr) (s : State) : Option (List U8 × Nat) :=
  (after (exec i s)).map (fun t => (t.trkSlot.toList, t.trkLen.val))

/-- The arpeggiator after an operation: active, last step, counter. -/
def arpAfter (i : Instr) (s : State) : Option (Bool × U32 × U32) :=
  (after (exec i s)).map (fun t => (t.arpActive, t.arpLastMs, t.arpCounter))

/-- The envelope after an operation. -/
def envAfter (i : Instr) (s : State) : Option (EnvStage × F32) :=
  (after (exec i s)).map (fun t => (t.envStage, t.envValue))

/-- The reset state with these slots in the tracker. -/
def holding (slots : Vector U8 5) (len : Fin 6) : State := { State.reset with trkSlot := slots, trkLen := len }

/-- 95_test_vectors.md section 3: notes 80, 40, 60 pushed in this order. -/
def heldThree : State := holding #v[60, 40, 80, 255, 255] 3

/-- The result of V-TRK-1: a full tracker. -/
def heldFive : State := holding #v[69, 67, 65, 64, 62] 5

/-- The reset state with oscillator 0 as given, at a phase. -/
def oscState (c : OscCfg) (phase : F32) : State :=
  { State.reset with
    cfgActive := { resetConfig with osc := #v[c, resetOsc false, resetOsc false] }, oscPhase := #v[phase, 0, 0] }

/-- The reset state with an envelope stage and value, and a sustain level. -/
def envState (st : EnvStage) (v sus : F32) : State := { State.reset with envStage := st, envValue := v, envSus := sus }

/-- The reset state with a filter configuration and a smoothed cutoff. -/
def filtState (c : FiltCfg) (fc : F32) : State :=
  { State.reset with cfgActive := { resetConfig with filt := c }, filtFc := fc }

/-- The reset state with an active arpeggiator. -/
def arpState (last counter : U32) : State :=
  { State.reset with arpActive := true, arpLastMs := last, arpCounter := counter }

/-- Tempo 120, division 1: a period of 500 ms (V-SRC-6). -/
def beat : ArpCfg := { en := true, bpm := 120, div := 1 }

/-! ## Ill-formed terms (WellFormed) -/

theorem test_wf_noteOn_velocity_zero : (Instr.noteOn 0 60 false 0 false 0).wellFormed = false := by
  decide +kernel

theorem test_wf_evtIgnore_status_8 : (Instr.evtIgnore 0 8 60 false 1 false 0).wellFormed = false := by
  decide +kernel

theorem test_wf_evtIgnore_status_9 : (Instr.evtIgnore 0 9 60 false 1 false 0).wellFormed = false := by
  decide +kernel

theorem test_wf_rdReserved_mapped :
    (Instr.rdReserved 0x054).wellFormed = false ∧ (Instr.rdReserved 0x05A).wellFormed = false := by
  decide +kernel

theorem test_wf_wrReserved_mapped :
    (Instr.wrReserved 0x0CC 1).wellFormed = false ∧ (Instr.wrReserved 0x156 1).wellFormed = false := by
  decide +kernel

theorem test_wf_busError_of_a_legal_access :
    (Instr.busError (.read 0x1FC 4)).wellFormed = false ∧ (Instr.busError (.write 0x004 4 1)).wellFormed = false := by
  decide +kernel

theorem test_wf_phase_of_one :
    (Instr.waveSine 0x3F800000).wellFormed = false ∧ (Instr.waveSaw 0x80000000).wellFormed = false ∧
    (Instr.waveSquare 0x3F800000).wellFormed = false ∧ (Instr.waveTriangle 0xBF000000).wellFormed = false ∧
    (Instr.wave 1 0x7FC00000).wellFormed = false := by decide +kernel

theorem test_wf_trkAt_beyond : (Instr.trkAt 5).wellFormed = false := by decide +kernel

theorem test_wf_dt_of_no_pitch :
    (Instr.dt 128).wellFormed = false ∧ (Instr.dt 254).wellFormed = false := by decide +kernel

/-! ## Decoding of words written out from the spec -/

/-- V-EVT-1 to V-EVT-12 (R91, R92). -/
theorem test_decode_event_vectors :
    [0x00643C90#32, 0x00003C90#32, 0x00643C80#32, 0x00643C9F#32, 0x00643CB0#32, 0xFFFFFFFF#32, 0x0000BC90#32,
     0x00803C90#32, 0x7F7F7F99#32, 0x00017F90#32, 0x00000000#32, 0x00FF3C8A#32].map (fun w => decode (.event w)) =
    [.noteOn 0 60 false 100 false 0, .noteOnVel0 0 60 false false 0, .noteOff 0 60 false 100 false 0,
     .noteOn 15 60 false 100 false 0, .evtIgnore 0 0xB 60 false 100 false 0, .evtIgnore 15 15 127 true 127 true 255,
     .noteOnVel0 0 60 true false 0, .noteOnVel0 0 60 false true 0, .noteOn 9 127 false 127 false 0x7F,
     .noteOn 0 127 false 1 false 0, .evtIgnore 0 0 0 false 0 false 0, .noteOff 10 60 false 127 true 0] := by
  decide +kernel

/-- Bit by bit (R91): byte 3 zero, bit 23 zero, velocity 100, bit 15 zero, pitch 60, status 9, channel 0. -/
theorem test_decode_event_bits :
    decode (.event (0b00000000#8 ++ 0b0#1 ++ 0b1100100#7 ++ 0b0#1 ++ 0b0111100#7 ++ 0b1001#4 ++ 0b0000#4)) =
      .noteOn 0 60 false 100 false 0 := by decide +kernel

/-- The stage registers at the offsets of R75, read. -/
theorem test_decode_read_stage :
    ([0x000, 0x004, 0x008, 0x00C, 0x010, 0x014, 0x018, 0x01C, 0x020, 0x024, 0x028, 0x02C, 0x030, 0x034, 0x038, 0x03C,
     0x040, 0x044, 0x048, 0x04C, 0x050, 0x054] : List Offset).map
      (fun a => decode (.access (.read a 4))) =
    [.rdCfgStageArpCtrl, .rdCfgStageArpBpm, .rdCfgStageArpDiv, .rdCfgStageOsc0Ctrl, .rdCfgStageOsc0Fmult,
     .rdCfgStageOsc0Gain, .rdCfgStageOsc1Ctrl, .rdCfgStageOsc1Fmult, .rdCfgStageOsc1Gain, .rdCfgStageOsc2Ctrl,
     .rdCfgStageOsc2Fmult, .rdCfgStageOsc2Gain, .rdCfgStageEnvAttack, .rdCfgStageEnvDecay, .rdCfgStageEnvSustain,
     .rdCfgStageEnvRelease, .rdCfgStageBoostPre, .rdCfgStageBoostPost, .rdCfgStageFiltCtrl, .rdCfgStageFiltCutoff,
     .rdCfgStageFiltRes, .rdCfgStageFiltContour] := by decide +kernel

/-- The port registers at the offsets of R75, read. -/
theorem test_decode_read_port :
    ([0x080, 0x084, 0x088, 0x08C, 0x090, 0x094, 0x098, 0x09C, 0x0A0, 0x0A4, 0x0A8, 0x0AC, 0x0B0, 0x0B4, 0x0B8, 0x0BC,
     0x0C0, 0x0C4, 0x0C8, 0x0CC] : List Offset).map
      (fun a => decode (.access (.read a 4))) =
    [.rdCfgCommit, .rdMboxStatus, .rdEvtPush, .rdEvtStatus, .rdVoiceStatus, .rdEnvValue, .rdArpCounter, .rdArpLastMs,
     .rdTrkSlots0, .rdTrkSlots1, .rdTrkQuery, .rdOscPhase0, .rdOscPhase1, .rdOscPhase2, .rdFiltState, .rdFiltFc,
     .rdEnvArate, .rdEnvDrate, .rdEnvRrate, .rdEnvSus] := by decide +kernel

/-- The active registers at the offsets of R75, read. -/
theorem test_decode_read_active :
    ([0x100, 0x104, 0x108, 0x10C, 0x110, 0x114, 0x118, 0x11C, 0x120, 0x124, 0x128, 0x12C, 0x130, 0x134, 0x138, 0x13C,
     0x140, 0x144, 0x148, 0x14C, 0x150, 0x154] : List Offset).map
      (fun a => decode (.access (.read a 4))) =
    [.rdCfgActiveArpCtrl, .rdCfgActiveArpBpm, .rdCfgActiveArpDiv, .rdCfgActiveOsc0Ctrl, .rdCfgActiveOsc0Fmult,
     .rdCfgActiveOsc0Gain, .rdCfgActiveOsc1Ctrl, .rdCfgActiveOsc1Fmult, .rdCfgActiveOsc1Gain, .rdCfgActiveOsc2Ctrl,
     .rdCfgActiveOsc2Fmult, .rdCfgActiveOsc2Gain, .rdCfgActiveEnvAttack, .rdCfgActiveEnvDecay, .rdCfgActiveEnvSustain,
     .rdCfgActiveEnvRelease, .rdCfgActiveBoostPre, .rdCfgActiveBoostPost, .rdCfgActiveFiltCtrl,
     .rdCfgActiveFiltCutoff, .rdCfgActiveFiltRes, .rdCfgActiveFiltContour] := by decide +kernel

/-- The stage registers at the offsets of R75, write. -/
theorem test_decode_write_stage :
    ([0x000, 0x004, 0x008, 0x00C, 0x010, 0x014, 0x018, 0x01C, 0x020, 0x024, 0x028, 0x02C, 0x030, 0x034, 0x038, 0x03C,
     0x040, 0x044, 0x048, 0x04C, 0x050, 0x054] : List Offset).map
      (fun a => decode (.access (.write a 4 0x12345678))) =
    [.wrCfgStageArpCtrl 0x12345678, .wrCfgStageArpBpm 0x12345678, .wrCfgStageArpDiv 0x12345678,
     .wrCfgStageOsc0Ctrl 0x12345678, .wrCfgStageOsc0Fmult 0x12345678, .wrCfgStageOsc0Gain 0x12345678,
     .wrCfgStageOsc1Ctrl 0x12345678, .wrCfgStageOsc1Fmult 0x12345678, .wrCfgStageOsc1Gain 0x12345678,
     .wrCfgStageOsc2Ctrl 0x12345678, .wrCfgStageOsc2Fmult 0x12345678, .wrCfgStageOsc2Gain 0x12345678,
     .wrCfgStageEnvAttack 0x12345678, .wrCfgStageEnvDecay 0x12345678, .wrCfgStageEnvSustain 0x12345678,
     .wrCfgStageEnvRelease 0x12345678, .wrCfgStageBoostPre 0x12345678, .wrCfgStageBoostPost 0x12345678,
     .wrCfgStageFiltCtrl 0x12345678, .wrCfgStageFiltCutoff 0x12345678, .wrCfgStageFiltRes 0x12345678,
     .wrCfgStageFiltContour 0x12345678] := by decide +kernel

/-- The port registers at the offsets of R75, write. -/
theorem test_decode_write_port :
    ([0x080, 0x084, 0x088, 0x08C, 0x090, 0x094, 0x098, 0x09C, 0x0A0, 0x0A4, 0x0A8, 0x0AC, 0x0B0, 0x0B4, 0x0B8, 0x0BC,
     0x0C0, 0x0C4, 0x0C8, 0x0CC] : List Offset).map
      (fun a => decode (.access (.write a 4 0x12345678))) =
    [.wrCfgCommit 0x12345678, .wrMboxStatus 0x12345678, .wrEvtPush 0x12345678, .wrEvtStatus 0x12345678,
     .wrVoiceStatus 0x12345678, .wrEnvValue 0x12345678, .wrArpCounter 0x12345678, .wrArpLastMs 0x12345678,
     .wrTrkSlots0 0x12345678, .wrTrkSlots1 0x12345678, .wrTrkQuery 0x12345678, .wrOscPhase0 0x12345678,
     .wrOscPhase1 0x12345678, .wrOscPhase2 0x12345678, .wrFiltState 0x12345678, .wrFiltFc 0x12345678,
     .wrEnvArate 0x12345678, .wrEnvDrate 0x12345678, .wrEnvRrate 0x12345678, .wrEnvSus 0x12345678] := by
  decide +kernel

/-- The active registers at the offsets of R75, write. -/
theorem test_decode_write_active :
    ([0x100, 0x104, 0x108, 0x10C, 0x110, 0x114, 0x118, 0x11C, 0x120, 0x124, 0x128, 0x12C, 0x130, 0x134, 0x138, 0x13C,
     0x140, 0x144, 0x148, 0x14C, 0x150, 0x154] : List Offset).map
      (fun a => decode (.access (.write a 4 0x12345678))) =
    [.wrCfgActiveArpCtrl 0x12345678, .wrCfgActiveArpBpm 0x12345678, .wrCfgActiveArpDiv 0x12345678,
     .wrCfgActiveOsc0Ctrl 0x12345678, .wrCfgActiveOsc0Fmult 0x12345678, .wrCfgActiveOsc0Gain 0x12345678,
     .wrCfgActiveOsc1Ctrl 0x12345678, .wrCfgActiveOsc1Fmult 0x12345678, .wrCfgActiveOsc1Gain 0x12345678,
     .wrCfgActiveOsc2Ctrl 0x12345678, .wrCfgActiveOsc2Fmult 0x12345678, .wrCfgActiveOsc2Gain 0x12345678,
     .wrCfgActiveEnvAttack 0x12345678, .wrCfgActiveEnvDecay 0x12345678, .wrCfgActiveEnvSustain 0x12345678,
     .wrCfgActiveEnvRelease 0x12345678, .wrCfgActiveBoostPre 0x12345678, .wrCfgActiveBoostPost 0x12345678,
     .wrCfgActiveFiltCtrl 0x12345678, .wrCfgActiveFiltCutoff 0x12345678, .wrCfgActiveFiltRes 0x12345678,
     .wrCfgActiveFiltContour 0x12345678] := by decide +kernel

/-- V-REG-7 and the ends of the reserved ranges (R75). -/
theorem test_decode_reserved :
    decode (.access (.read 0x058 4)) = .rdReserved 0x058 ∧ decode (.access (.read 0x1FC 4)) = .rdReserved 0x1FC ∧
    decode (.access (.write 0x0D0 4 1)) = .wrReserved 0x0D0 1 ∧ decode (.access (.write 0x0FC 4 1)) = .wrReserved 0x0FC 1 := by
  decide +kernel

/-- V-REG-8 (R71). -/
theorem test_decode_bus_error :
    decode (.access (.read 0x000 2)) = .busError (.read 0x000 2) ∧
    decode (.access (.write 0x002 4 7)) = .busError (.write 0x002 4 7) := by decide +kernel

theorem test_decode_tick : decode (.tick 499) = .tick 499 := by decide +kernel

/-- Bits 2:1 of OSCi_CTRL select the waveform (R113). -/
theorem test_decode_wave :
    [0x00000001#32, 0x00000003#32, 0x00000005#32, 0xFFFFFFFF#32].map (fun c => decode (.wave c 0x3E800000)) =
    [.waveSine 0x3E800000, .waveSaw 0x3E800000, .waveSquare 0x3E800000, .waveTriangle 0x3E800000] := by
  decide +kernel

/-- Rows of the opcode table, numbered as it numbers their bits (log 14). -/
theorem test_decode_table_words :
    [decodeTableWord 8 0x80, decodeTableWord 24 0x010090, decodeTableWord 24 0, decodeTableWord 16 0x138, decodeTableWord 8 4] =
    [some (.noteOff 0 0 false 0 false 0), some (.noteOn 0 0 false 1 false 0), some (.evtIgnore 0 0 0 false 0 false 0),
    some .rdCfgActiveEnvSustain, some (.waveSquare 0)] := by decide +kernel

/-- V-EVT-4; TRK_QUERY at 0x0A8; an internal operation has no encoding (R118). -/
theorem test_encode_fields :
    encode (.noteOn 15 60 false 100 false 0) = some (.event 0x00643C9F) ∧
    encode (.wrTrkQuery 7) = some (.access (.write 0x0A8 4 7)) ∧ encode .drain = none := by decide +kernel

/-! ## Events and tracker (section 3) -/

/-- V-TRK-6 by an event (R243). -/
theorem test_noteOn_pushes :
    slotsAfter (.noteOn 0 67 false 1 false 0) (holding #v[64, 60, 255, 255, 255] 2) =
    some ([67, 64, 60, 255, 255], 3) := by decide +kernel

/-- V-TRK-3 by an event (R243). -/
theorem test_noteOff_pops :
    slotsAfter (.noteOff 3 65 true 9 true 1) heldFive =
    some ([69, 67, 64, 62, 255], 4) := by decide +kernel

/-- V-TRK-7 by an event (R243). -/
theorem test_noteOnVel0_pops :
    slotsAfter (.noteOnVel0 0 64 false false 0) (holding #v[67, 64, 60, 255, 255] 3) =
    some ([67, 60, 255, 255, 255], 2) := by decide +kernel

theorem test_evtIgnore_does_nothing :
    after (exec (.evtIgnore 0 0xB 60 false 100 false 0) heldThree) = some heldThree := by decide +kernel

/-- V-EVT-1, 8, 3, 6. -/
theorem test_evtKind :
    [0x00643C90#32, 0x00803C90#32, 0x00643C80#32, 0xFFFFFFFF#32].map evtKind = [.noteOn, .noteOff, .noteOff, .ignore] := by
  decide +kernel

/-- V-EVT-2. -/
theorem test_exec_evtKind : resultOf (.evtKind 0x00003C90) State.reset = some (.kind .noteOff) := by
  decide +kernel

/-- V-TRK-1. -/
theorem test_trkPush_overflow :
    slotsAfter (.trkPush 69) (holding #v[67, 65, 64, 62, 60] 5) =
    some ([69, 67, 65, 64, 62], 5) := by decide +kernel

/-- V-TRK-4, V-TRK-5. -/
theorem test_trkPush_no_ops :
    after (exec (.trkPush 67) heldFive) = some heldFive ∧ after (exec (.trkPush 255) heldFive) = some heldFive := by
  decide +kernel

/-- V-TRK-3. -/
theorem test_trkPop_removes : slotsAfter (.trkPop 65) heldFive =
some ([69, 67, 64, 62, 255], 4) := by decide +kernel

/-- V-TRK-2, V-TRK-9. -/
theorem test_trkPop_no_ops :
    after (exec (.trkPop 60) heldFive) = some heldFive ∧ after (exec (.trkPop 255) State.reset) = some State.reset := by
  decide +kernel

/-- V-TRK-10. -/
theorem test_trkMostRecent : resultOf .trkMostRecent heldThree = some (.note 60) := by decide +kernel

/-- V-TRK-11, V-TRK-18. -/
theorem test_trkSmallest :
    resultOf .trkSmallest heldThree = some (.note 40) ∧
    resultOf .trkSmallest State.reset = some (.note 255) := by decide +kernel

/-- V-TRK-12 to V-TRK-16. -/
theorem test_trkRightOf :
    [60, 80, 255, 39, 200].map (fun x => trkRightOf x heldThree) = [80, 40, 40, 40, 40] := by decide +kernel

/-- V-SRC-13. -/
theorem test_exec_trkRightOf :
    resultOf (.trkRightOf 7) (holding #v[50, 255, 255, 255, 255] 1) = some (.note 50) := by decide +kernel

theorem test_trkLength : resultOf .trkLength heldThree = some (.count 3) := by decide +kernel

/-- V-TRK-17. -/
theorem test_trkAt : resultOf (.trkAt 1) heldThree = some (.note 40) := by decide +kernel

/-! ## Arpeggiator (section 4) -/

/-- V-ARP-1, V-ARP-2. -/
theorem test_arpPeriod :
    ([(120, 1), (120, 4), (7, 1), (3, 7), (60001, 1), (0, 4), (4294967295, 4294967295)] :
    List (U32 × U32)).map (fun x => arpPeriod { en := true, bpm := x.1, div := x.2 }) =
    [.ms 500, .ms 125, .ms 8571, .ms 2857, .ms 0, .never, .ms 0] := by decide +kernel

theorem test_exec_arpPeriod : resultOf (.arpPeriod beat) State.reset = some (.period (.ms 500)) := by
  decide +kernel

/-- V-ARP-4. -/
theorem test_arpStep_waits_then_advances :
    arpAfter (.arpStep beat 1499) (arpState 1000 2) =
    some (true, 1000, 2) ∧
    arpAfter (.arpStep beat 1500) (arpState 1000 2) =
    some (true, 1500, 3) ∧
    resultOf (.arpStep beat 1500) (arpState 1000 2) = some (.flag true) := by decide +kernel

/-- V-ARP-5, V-ARP-3. -/
theorem test_arpStep_wraps :
    arpAfter (.arpStep beat 0x000000F4) (arpState 0xFFFFFF00 9) =
    some (true, 0x000000F4, 10) ∧
    arpAfter (.arpStep beat 1234) State.reset =
    some (true, 1234, 0) := by decide +kernel

/-- V-ARP-11. -/
theorem test_arpClear : arpAfter .arpClear (arpState 900 7) = some (false, 0, 0) := by decide +kernel

/-- V-ARP-9. -/
theorem test_arpIndex :
    resultOf .arpIndex { heldThree with arpCounter := 5 } = some (.count 2) ∧
    resultOf .arpIndex { holding #v[67, 60, 255, 255, 255] 2 with arpCounter := 5 } =
    some (.count 1) := by decide +kernel

/-! ## Oscillators (section 5) -/

/-- V-OSC-1 to V-OSC-6. -/
theorem test_dt :
    [69, 60, 64, 0, 127, 255].map dtOf =
    [0x3C2377EE, 0x3BC265DC, 0x3BF4ED0D, 0x394265DC, 0x3E91A244, 0x00000000] := by decide +kernel

theorem test_exec_dt : resultOf (.dt 69) State.reset = some (.sample 0x3C2377EE) := by decide +kernel

/-- V-OSC-7, V-OSC-8. -/
theorem test_wave_sine_saw :
    ([0, 0x3E000000, 0x3E800000, 0x3F000000, 0x3F400000, 0x3F7FFFFE] : List F32).map (fun q => (waveAt 0 q, waveAt 1 q)) =
    [(0x00000000, 0xBF800000), (0x3F3504F3, 0xBF400000), (0x3F800000, 0xBF000000), (0x00000000, 0x00000000),
    (0xBF800000, 0x3F000000), (0xBCC90AB0, 0x3F7FFFFC)] := by decide +kernel

/-- V-OSC-9, V-OSC-10. -/
theorem test_wave_square_triangle :
    ([0, 0x3E000000, 0x3E800000, 0x3F000000, 0x3F400000, 0x3F7FFFFE] : List F32).map (fun q => (waveAt 2 q, waveAt 3 q)) =
    [(0x3F800000, 0xBF800000), (0x3F800000, 0xBF000000), (0x3F800000, 0x00000000), (0xBF800000, 0x3F800000),
    (0xBF800000, 0x00000000), (0xBF800000, 0xBF7FFFF8)] := by decide +kernel

/-- V-OSC-11. -/
theorem test_exec_wave : resultOf (.wave 0 0x3E7FFFF9) State.reset = some (.sample 0x3F7FEC43) := by
  decide +kernel

theorem test_exec_waveSine :
    resultOf (.waveSine 0x3E000000) State.reset = some (.sample 0x3F3504F3) := by decide +kernel

theorem test_exec_waveSaw : resultOf (.waveSaw 0x3F7FFFFE) State.reset = some (.sample 0x3F7FFFFC) := by
  decide +kernel

theorem test_exec_waveSquare :
    resultOf (.waveSquare 0x3F000000) State.reset = some (.sample 0xBF800000) := by decide +kernel

theorem test_exec_waveTriangle :
    resultOf (.waveTriangle 0x3F7FFFFE) State.reset = some (.sample 0xBF7FFFF8) := by decide +kernel

/-- V-OSC-13. -/
theorem test_oscStep_wraps :
    (after (exec (.oscStep 0 0x3C2377EE) (oscState (resetOsc true) 0x3F7EB852))).map (fun t => (t.oscPhase[0], t.result)) =
    some (0x3BA31900, .sample 0xBF7D739C) := by decide +kernel

/-- V-OSC-15. -/
theorem test_oscStep_folds_to_zero :
    (after (exec (.oscStep 0 0x33800000) (oscState { resetOsc true with fmult := 0xBF800000 } 0x33000000))).map (fun t => (t.oscPhase[0], t.result)) =
    some (0x00000000, .sample 0xBF800000) := by decide +kernel

/-! ## Envelope (section 6) -/

/-- V-ENV-R1 to V-ENV-R5. -/
theorem test_envRate :
    [0x3C23D70A, 0x3DCCCCCD, 0x3E4CCCCD, 0x00000000, 0x80000000, 0x3A03126F, 0x42700000].map envRate =
    [0x3B149B93, 0x396DC5B8, 0x38EDC5B8, 0x3CB9C277, 0x3CB9C277, 0x3CB9C277, 0x34CAE629] := by
  decide +kernel

/-- V-ENV-R4, R5, R3. -/
theorem test_envSetRates :
    (after (exec (.envSetRates { attack := 0, decay := 0x42700000, sustain := 0x3F000000, release := 0x3E4CCCCD })
    State.reset)).map (fun t => (t.envArate, t.envDrate, t.envRrate, t.envSus)) =
    some (0x3CB9C277, 0x34CAE629, 0x38EDC5B8, 0x3F000000) := by decide +kernel

/-- The rates of RESET_CONFIG (R44). -/
theorem test_setRatesStep :
    (after (exec .setRatesStep { State.reset with envArate := 0, envDrate := 0, envRrate := 0, envSus := 0 })) =
    some State.reset := by decide +kernel

/-- V-ENV-8. -/
theorem test_envStep_attack :
    envAfter .envStep { envState .attack 0x3F000000 0x3F333333 with envArate := 0x3E800000 } =
    some (.attack, 0x3F400000) ∧
    resultOf .envStep { envState .attack 0x3F000000 0x3F333333 with envArate := 0x3E800000 } =
    some (.sample 0x3F400000) := by decide +kernel

/-- V-ENV-13. -/
theorem test_envStep_decay_clamps_up :
    envAfter .envStep (envState .decay 0x3F19999A 0x3F333333) =
    some (.sustain, 0x3F333333) := by decide +kernel

theorem test_envStageOff :
    after (exec .envStageOff (envState .off 0 0x3F333333)) = some (envState .off 0 0x3F333333) := by
  decide +kernel

/-- R193: the crossing step gives exactly 1.0. -/
theorem test_envStageAttack_lands_on_one :
    envAfter .envStageAttack { envState .attack 0x3F7F0000 0 with envArate := 0x3CB9C277 } =
    some (.decay, 0x3F800000) := by decide +kernel

/-- V-ENV-3, first step. -/
theorem test_envStageDecay :
    envAfter .envStageDecay (envState .decay 0x3F800000 0x3F333333) =
    some (.decay, 0x3F7FF124) := by decide +kernel

/-- V-ENV-9. -/
theorem test_envStageDecay_ends :
    envAfter .envStageDecay (envState .decay 0x3F800000 0x3F800000) =
    some (.sustain, 0x3F800000) := by decide +kernel

/-- V-ENV-12. -/
theorem test_envStageSustain :
    after (exec .envStageSustain (envState .sustain 0x3F333333 0x3F000000)) =
    some (envState .sustain 0x3F333333 0x3F000000) := by decide +kernel

/-- V-ENV-5, first step. -/
theorem test_envStageRelease :
    envAfter .envStageRelease (envState .release 0x3F333333 0) =
    some (.release, 0x3F332BC5) := by decide +kernel

/-- V-ENV-10. -/
theorem test_envStageRelease_ends :
    envAfter .envStageRelease (envState .release 0 0) = some (.off, 0) := by decide +kernel

/-- V-ENV-11. -/
theorem test_envTriggerOn :
    envAfter .envTriggerOn (envState .sustain 0x3F333333 0) = some (.attack, 0x3F333333) := by
  decide +kernel

/-- V-ENV-10. -/
theorem test_envTriggerOff : envAfter .envTriggerOff (envState .off 0 0) = some (.release, 0) := by
  decide +kernel

/-! ## Filter (section 7) and saturation (section 8) -/

/-- V-FLT-1. -/
theorem test_filtTarget :
    resultOf (.filtTarget { en := true, contourEn := true, cutoff := 0x447A0000, res := 0, contour := 0x457A0000 } 0x3F000000) State.reset =
    some (.sample 0x453B8000) := by decide +kernel

/-- V-FLT-2. -/
theorem test_filtTarget_clamps :
    resultOf (.filtTarget { en := true, contourEn := false, cutoff := 0x40A00000, res := 0, contour := 0 } 0x3F000000) State.reset =
    some (.sample 0x41A00000) := by decide +kernel

/-- V-FLT-3; a cutoff at its target stays (R211). -/
theorem test_filtSmooth :
    (after (exec (.filtSmooth 0x41A00000) State.reset)).map (fun t => t.filtFc) = some 0x469C36F1 ∧
    (after (exec (.filtSmooth 0x469C377E) { State.reset with filtFc := 0x469C377E })).map (fun t => t.filtFc) = some 0x469C377E := by
  decide +kernel

/-- V-FLT-6. -/
theorem test_filtK :
    resultOf (.filtK { en := true, contourEn := true, cutoff := 0, res := 0x3FC00000, contour := 0 }) State.reset =
    some (.sample 0x3F800000) ∧
    resultOf (.filtK { en := true, contourEn := true, cutoff := 0, res := 0xBE4CCCCD, contour := 0 }) State.reset =
    some (.sample 0x00000000) := by decide +kernel

/-- V-FLT-9, with the reference g of V-FLT-7 as the tangent. -/
theorem test_filtSample_reference :
    (fun a : F32 × State => (a.1, a.2.filtS)) (filtSampleWith (fun _ => 0x3D922480) 0x3F800000 0
    (filtState { en := true, contourEn := false, cutoff := 0x447A0000, res := 0, contour := 0 } 0x447A0000)) =
    (0x3D88689C, 0x3E08689C) := by decide +kernel

/-- V-FLT-16: the cutoff, for any NUM_TAN. -/
theorem test_exec_filtSample :
    (after (exec (.filtSample 0 0) (filtState { en := true, contourEn := false, cutoff := 0x469C4000, res := 0, contour := 0 }
    0x469C4000))).map (fun t => t.filtFc) = some 0x469C4000 := by decide +kernel

/-- V-SAT-1 to V-SAT-5. -/
theorem test_satHard :
    [0x3DCCCCCD, 0x3F000000, 0xBF800000, 0x40000000, 0xC0A00000, 0x403EEDA9, 0x403EEDA8, 0x80000000, 0x00000001].map satHard =
    [0x3DCC31F9, 0x3EEE7EE8, 0xBF471C72, 0x3F7BEFBF, 0xBF800000, 0x3F800001, 0x3F7FFFFF, 0x80000000, 0x00000001] := by
  decide +kernel

/-- V-SRC-15. -/
theorem test_exec_satHard : resultOf (.satHard 0x3F800000) State.reset = some (.sample 0x3F471C72) := by
  decide +kernel

/-- V-SAT-6, V-SAT-7. -/
theorem test_satSoft :
    [0x3F000000, 0x3F800000, 0x40400000, 0xC0000000, 0x80000000, 0x4B800000].map satSoft =
    [0x3EAAAAAB, 0x3F000000, 0x3F400000, 0xBF2AAAAB, 0x80000000, 0x3F800000] := by decide +kernel

theorem test_exec_satSoft : resultOf (.satSoft 0x3F000000) State.reset = some (.sample 0x3EAAAAAB) := by
  decide +kernel

/-- V-SAT-10. -/
theorem test_boostChain :
    resultOf (.boostChain 0x3F000000) { State.reset with cfgActive := { resetConfig with boost := { pre := 0x40800000, post := 0x40000000 } } } =
    some (.sample 0x3F7B748E) := by decide +kernel

/-- V-SAT-13. -/
theorem test_boostChain_zero :
    resultOf (.boostChain 0x80000000) State.reset = some (.sample 0x80000000) := by decide +kernel

/-! ## Voice and tick (section 9, program P1) -/

/-- R242. -/
theorem test_adopt_legal :
    (after (exec .adopt { State.reset with mboxPending := true, mboxSlot := { resetConfig with arp := beat } })).map
    (fun t => (t.cfgActive.arp, t.mboxPending, t.faults)) = some (beat, false, []) := by decide +kernel

/-- Program P3: a NaN sustain level. -/
theorem test_adopt_illegal :
    (after (exec .adopt { State.reset with
    mboxPending := true, mboxSlot := { resetConfig with env := { resetConfig.env with sustain := 0x7FC00000 } } })).map
    (fun t => (t.cfgActive.env.sustain, t.mboxPending, t.faults.map faultCode)) = some (0x3F333333, false, [2]) := by
  decide +kernel

/-- Program P3: its three note-ons. -/
theorem test_drain :
    slotsAfter .drain { State.reset with evq := [0x00645090, 0x00642890, 0x00643C90, 0] } =
    some ([60, 40, 80, 255, 255], 3) := by decide +kernel

/-- R245, V-ARP-11. -/
theorem test_emptyVoice :
    (after (exec .emptyVoice { arpState 900 7 with voiceEn := true, voiceNote := 60, envStage := .sustain })).map
    (fun t => (t.voiceEn, t.voiceNote, t.envStage, t.arpActive, t.arpCounter)) = some (false, 60, .release, false, 0) := by
  decide +kernel

/-- R246: index 1 of the tracker. -/
theorem test_selectNote_arp :
    (after (exec (.selectNote 500) { heldThree with
    cfgActive := { resetConfig with arp := beat }, arpActive := true })).map (fun t => (t.result, t.arpCounter)) =
    some (.note 40, 1) := by decide +kernel

/-- R246. -/
theorem test_selectNote_plain : resultOf (.selectNote 500) heldThree = some (.note 60) := by decide +kernel

/-- R247. -/
theorem test_retrigger :
    (after (exec (.retrigger 60) { State.reset with voiceEn := true, voiceNote := 64, envStage := .sustain })).map
    (fun t => (t.voiceNote, t.envStage)) = some (60, .attack) ∧
    (after (exec (.retrigger 64) { State.reset with voiceEn := true, voiceNote := 64, envStage := .sustain })).map
    (fun t => t.envStage) = some .sustain := by decide +kernel

/-- V-PIPE-1. -/
theorem test_sample :
    (after (exec (.sample 0x3C2377EE) (envState .attack 0 0x3F333333))).map (fun t => t.out) = some [0xBB11A452] := by
  decide +kernel

theorem test_emit :
    (after (exec (.emit 0xBB11A452) { State.reset with out := [1] })).map (fun t => t.out) = some [1, 0xBB11A452] := by
  decide +kernel

/-- V-PIPE-2 for a BLOCK_SIZE of 4. -/
theorem test_tick_from_reset :
    tickWith 4 id 0 State.reset = { State.reset with out := [0x80000000, 0x80000000, 0x80000000, 0x80000000] } := by
  decide +kernel

/-- Program P1, first tick. -/
theorem test_tick_note_on :
    (tickWith 4 id 0 { State.reset with evq := [0x00644590] }).out = [0xBB11A452, 0xBB8EACE0, 0xBBD18FE6, 0xBC08BD8B] ∧
    voiceStatus (tickWith 4 id 0 { State.reset with evq := [0x00644590] }) = 0x00114501 := by decide +kernel

/-! ## Registers (section 9) -/

/-- V-REG-2, V-REG-3, V-REG-4. -/
theorem test_stage_masks :
    (after (exec (.wrCfgStageOsc0Ctrl 0xFFFFFFFF) State.reset)).map (fun t => t.cfgStage[3]) = some 0x00000007 ∧
    (after (exec (.wrCfgStageFiltCtrl 0xFFFFFFFF) State.reset)).map (fun t => t.cfgStage[18]) = some 0x00000003 ∧
    (after (exec (.wrCfgStageOsc0Fmult 0x7FC00001) State.reset)).map (fun t => t.cfgStage[4]) = some 0x7FC00001 := by
  decide +kernel

/-- V-REG-5. -/
theorem test_write_only_reads :
    answerOf .rdCfgCommit State.reset = some (0, false) ∧
    answerOf .rdEvtPush State.reset = some (0, false) := by decide +kernel

/-- V-REG-6. -/
theorem test_read_only_write :
    after (exec (.wrVoiceStatus 0x12345678) State.reset) = some State.reset ∧
    answerOf .rdVoiceStatus State.reset = some (0x0000FF00, false) := by decide +kernel

/-- V-REG-7. -/
theorem test_reserved :
    answerOf (.rdReserved 0x0D0) { State.reset with hostData := 5 } = some (0, false) ∧
    after (exec (.wrReserved 0x058 1) State.reset) = some State.reset := by decide +kernel

/-- V-REG-8. -/
theorem test_busError :
    after (exec (.busError (.read 0x000 2)) State.reset) =
    some { State.reset with faults := [.busError false 0x000 2], hostErr := true } := by decide +kernel

/-- V-REG-10. -/
theorem test_evtPush_and_status :
    (after (exec (.wrEvtPush 0) { State.reset with evq := List.replicate 32 0 })).map (fun t => (t.evq.length, t.evqOvf)) =
    some (32, true) ∧
    answerOf .rdEvtStatus { State.reset with evq := List.replicate 32 0, evqOvf := true } =
    some (0x00010120, false) := by decide +kernel

/-- V-REG-10, V-REG-11. -/
theorem test_evtStatus_clear :
    (after (exec (.wrEvtStatus 0x00010000) { State.reset with evqOvf := true })).map (fun t => t.evqOvf) = some false ∧
    (after (exec (.wrEvtStatus 0x0000FFFF) { State.reset with evqOvf := true })).map (fun t => t.evqOvf) = some true := by
  decide +kernel

/-- V-REG-12, V-REG-13. -/
theorem test_trkQuery :
    answerOf .rdTrkQuery { holding #v[80, 60, 40, 255, 255] 3 with trkQueryArg := 60 } = some (0x5028503C, false) ∧
    answerOf .rdTrkQuery { heldThree with trkQueryArg := 80 } = some (0x3C282850, false) := by
  decide +kernel

/-- V-REG-14. -/
theorem test_trkQuery_write :
    (after (exec (.wrTrkQuery 0x12345678) State.reset)).map (fun t => t.trkQueryArg) = some 0x78 := by
  decide +kernel

/-- V-REG-15, V-REG-16. -/
theorem test_commit :
    (after (exec (.wrCfgCommit 0xFFFF) { State.reset with cfgStage := State.reset.cfgStage.set 1 90 })).map
    (fun t => (t.mboxPending, t.mboxSlot.arp.bpm, t.cfgActive.arp.bpm)) = some (true, 90, 120) := by
  decide +kernel

/-- V-REG-15. -/
theorem test_mboxStatus :
    answerOf .rdMboxStatus { State.reset with mboxPending := true } = some (1, false) := by decide +kernel

/-- V-REG-1. -/
theorem test_active_reads :
    answerOf .rdCfgActiveOsc0Ctrl State.reset = some (0x00000003, false) ∧
    answerOf .rdCfgActiveEnvSustain State.reset = some (0x3F333333, false) := by decide +kernel

/-- R111: slot 0 in the low byte. -/
theorem test_trkSlots :
    answerOf .rdTrkSlots0 heldFive = some (0x40414345, false) ∧
    answerOf .rdTrkSlots1 heldFive = some (0x0000003E, false) := by decide +kernel

/-- R101, R105, R34. -/
theorem test_reset_image :
    resetStage = encodeCfg resetConfig ∧ decodeCfg resetStage = resetConfig ∧ legal resetConfig = true := by
  decide +kernel

/-! ## Steps -/

/-- No frame: nothing happens (log 1). -/
theorem test_step_idle : after (step State.reset) = some State.reset := by decide +kernel

/-- The word of RD_CFG_ACTIVE_ENV_SUSTAIN, placed and run. -/
theorem test_step_runs_a_placed_read :
    after (step (State.reset.withFetchWord 16 0x138)) = some { State.reset with hostData := 0x3F333333 } := by
  decide +kernel

/-- V-EVT-1, placed and run. -/
theorem test_step_runs_a_placed_event :
    after (step (State.reset.withFetchWord 24 0x643C90)) = some (holding #v[60, 255, 255, 255, 255] 1) := by
  decide +kernel

/-- WAVE_SAW at phase +0.0. -/
theorem test_step_runs_a_placed_wave :
    (after (step (State.reset.withFetchWord 8 2))).map (fun t => t.result) = some (.sample 0xBF800000) := by
  decide +kernel

/-- R117. -/
theorem test_command_expansions :
    expandCommand 0 (.noteOn 60) = [.access (.write 0x088 4 0x00643C90)] ∧
    expandCommand 0x00000003 (.stageField (.oscWave 1) 2) = [.access (.read 0x018 4), .access (.write 0x018 4 0x00000005)] ∧
    expandCommand 0 (.query 60) = [.access (.write 0x0A8 4 60), .access (.read 0x0A8 4)] := by
  decide +kernel

/-! ## Witnesses: for each statement with hypotheses, operands and a state that meet them, clause by clause -/

/-- The reset state with note 69 waiting in the queue. -/
def queued : State := { State.reset with evq := [0x00644590] }

/-- The reset state with a frame to take. -/
def waiting (f : Frame) : State := { State.reset with inbox := [f] }

theorem witness_DecodeOfEncodeGivesTheInstructionBack :
    (Instr.noteOn 15 127 true 1 true 255).wellFormed = true ∧
    (encode (.noteOn 15 127 true 1 true 255)).isSome = true ∧
    (Instr.rdReserved 0x1FC).wellFormed = true ∧ (encode (.rdReserved 0x1FC)).isSome = true := by
  decide +kernel

theorem witness_DecodedFramesAreWellFormedAndKeepTheirBits :
    inPhaseRange 0x00000000 = true ∧ inPhaseRange 0x3F7FFFFF = true := by decide +kernel

theorem witness_StepRunsTheDecodedInstruction :
    (waiting (.tick 7)).inbox = .tick 7 :: [] ∧ State.reset.inbox = [] := ⟨rfl, rfl⟩

theorem witness_EventKindFollowsTheStatusNibble :
    (0x00643C80#32).extractLsb' 4 4 = 0x8#4 ∧
    (0x00803C90#32).extractLsb' 4 4 = 0x9#4 ∧ (0x00803C90#32).extractLsb' 16 7 = 0#7 ∧
    (0x00017F90#32).extractLsb' 4 4 = 0x9#4 ∧ (0x00017F90#32).extractLsb' 16 7 ≠ 0#7 ∧
    (0x000000A0#32).extractLsb' 4 4 ≠ 0x8#4 ∧ (0x000000A0#32).extractLsb' 4 4 ≠ 0x9#4 := by decide +kernel

/-- V-EVT-3 and V-EVT-2: two words of one kind and pitch. -/
theorem witness_OnlyKindAndPitchOfAnEventMatter :
    List.Forall₂ (fun w w' => evtKind w = evtKind w' ∧ w.extractLsb' 8 7 = w'.extractLsb' 8 7)
      [0x00643C80#32] [0x00003C90#32] := .cons (by decide +kernel) .nil

theorem witness_TrackerPushPutsANewNoteFirst :
    (67 : U8) ∈ heldNotes heldFive ∧ (60 : U8) ≠ 255 ∧ (60 : U8) ∉ heldNotes heldFive ∧ trackerOk heldFive ∧
    (254 : U8) ≠ 255 ∧ (254 : U8) ∉ heldNotes State.reset ∧ trackerOk State.reset := by decide +kernel

theorem witness_TrackerPopRemovesTheNote :
    (60 : U8) ∉ heldNotes heldFive ∧ (62 : U8) ≠ 255 ∧ (62 : U8) ∈ heldNotes heldFive ∧
    (69 : U8) ∈ heldNotes heldFive ∧ trackerOk heldFive := by decide +kernel

theorem witness_TrackerQueriesReadTheHeldNotes :
    trackerOk heldFive ∧ heldNotes heldFive ≠ [] ∧ 4 < (heldNotes heldFive).length ∧
    trackerOk State.reset ∧ heldNotes State.reset = [] := by decide +kernel

/-- V-TRK-12 (a note above), V-TRK-13 (none above), V-SRC-13 (one note), V-TRK-18 (no note). -/
theorem witness_TrackerRightOfIsTheNextHigherNote :
    trackerOk heldThree ∧ 2 ≤ (heldNotes heldThree).length ∧
    (∃ n ∈ heldNotes heldThree, (60 : U8).toNat < n.toNat) ∧ (∀ n ∈ heldNotes heldThree, n.toNat ≤ (80 : U8).toNat) ∧
    trackerOk (holding #v[50, 255, 255, 255, 255] 1) ∧ heldNotes (holding #v[50, 255, 255, 255, 255] 1) = [50] ∧
    trackerOk State.reset ∧ heldNotes State.reset = [] := by decide +kernel

/-- The product at 0, and at the two sides of a period of 0. -/
theorem witness_ArpPeriodIsAFlooredQuotient :
    (0 : U32).toNat * (4 : U32).toNat = 0 ∧ (60000 : U32).toNat * (1 : U32).toNat ≠ 0 ∧
    (60001 : U32).toNat * (1 : U32).toNat ≠ 0 := by decide +kernel

/-- Inactive; never due; due at exactly the period; one millisecond short of it. -/
theorem witness_ArpStepActivatesAdvancesOrWaits :
    State.reset.arpActive = false ∧
    (arpState 1000 2).arpActive = true ∧ (0 : U32).toNat * (1 : U32).toNat = 0 ∧ beat.bpm.toNat * beat.div.toNat ≠ 0 ∧
    60000 / (beat.bpm.toNat * beat.div.toNat) ≤ ((1500 : U32) - (arpState 1000 2).arpLastMs).toNat ∧
    ((1499 : U32) - (arpState 1000 2).arpLastMs).toNat < 60000 / (beat.bpm.toNat * beat.div.toNat) := by
  decide +kernel

theorem witness_ArpClearAndIndex :
    heldThree.trkLen ≠ 0 ∧ State.reset.trkLen = 0 ∧ heldThree.trkLen.val ≤ 3 := by decide +kernel

/-- V-ARP-4: polls up to 1499, then 1500. -/
theorem witness_ArpWaitsOutItsPeriodThenAdvancesOnce :
    (arpState 1000 2).arpActive = true ∧ arpPeriod beat = .ms 500 ∧
    (∀ t ∈ ([1000, 1200, 1499] : List U32), (t - (arpState 1000 2).arpLastMs).toNat < 500) ∧
    500 ≤ ((1500 : U32) - (arpState 1000 2).arpLastMs).toNat := by
  refine ⟨by decide +kernel, by decide +kernel, fun t h => ?_, by decide +kernel⟩
  simp only [List.mem_cons, List.not_mem_nil, or_false] at h
  rcases h with rfl | rfl | rfl <;> decide +kernel

theorem witness_PhaseIncrementIsTheNoteFrequencyOverTheSampleRate : (0 : U8) ≠ 255 ∧ (254 : U8) ≠ 255 := by decide

/-- The ends of the phase range, and the corner of SQUARE and TRIANGLE. -/
theorem witness_WaveformsAndTheirRange :
    inPhaseRange 0x00000000 = true ∧ inPhaseRange 0x3F000000 = true ∧ inPhaseRange 0x3F7FFFFF = true := by
  decide +kernel

/-- V-OSC-11 (just below 64/256), and the first phases of entries 64 and 0. -/
theorem witness_SineReadsTheTruncatedTableEntry :
    sineTable[63]? = some 0x3F7FEC43 ∧ inPhaseRange 0x3E7FFFF9 = true ∧
    (63 : Int) * 2 ^ 149 ≤ fScaled 0x3E7FFFF9 * 256 ∧ fScaled 0x3E7FFFF9 * 256 < ((63 : Int) + 1) * 2 ^ 149 ∧
    sineTable[64]? = some 0x3F800000 ∧ inPhaseRange 0x3E800000 = true ∧
    (64 : Int) * 2 ^ 149 ≤ fScaled 0x3E800000 * 256 ∧ fScaled 0x3E800000 * 256 < ((64 : Int) + 1) * 2 ^ 149 ∧
    (0 : Int) * 2 ^ 149 ≤ fScaled 0x00000000 * 256 ∧ (64 : Nat) ≤ 64 ∧ 1 ≤ (127 : Nat) ∧ (127 : Nat) ≤ 127 := by
  decide +kernel

/-- One disabled and one enabled oscillator; from the reset state the two named values exist. -/
theorem witness_OscStepStoresTheFractionOfTheAdvancedPhase :
    (State.reset.cfgActive.osc[(1 : Fin 3)]).en = false ∧ (State.reset.cfgActive.osc[(0 : Fin 3)]).en = true ∧
    (2 : Fin 3) ≠ 0 ∧ ∃ u f : F32,
      u = fAdd State.reset.oscPhase[(0 : Fin 3)]
        (fMul 0x3C23D70A#32 (State.reset.cfgActive.osc[(0 : Fin 3)]).fmult) ∧
      f = fSub u (fFloor u) :=
  ⟨by decide +kernel, by decide +kernel, by decide, _, _, rfl, rfl⟩

/-- DT at its ends, and sums on both sides of zero. -/
theorem witness_OscStepKeepsPhasesInRangeAndOutputBounded :
    configOk State.reset ∧ phasesOk State.reset ∧
    fLe 0x00000000 0x00000000 = true ∧ fLe 0x00000000 0x3F800000 = true ∧ fLe 0x3F800000 0x3F800000 = true ∧
    fIsFinite 0xB3000000 = true ∧ fIsFinite 0x3F800000 = true ∧ 0 ≤ fScaled 0x3F800000 := by decide +kernel

theorem witness_EnvelopeRatesAndTheirBounds :
    fLe 0x00000000 0x00000000 = true ∧ fLe 0x00000000 0x42700000 = true ∧ fLe 0x42700000 0x42700000 = true ∧
    fLe 0x00000000 0x80000000 = true ∧ fLe 0x80000000 0x42700000 = true := by decide +kernel

/-- Both outcomes of each of the three comparisons. -/
theorem witness_EnvelopeStageRulesStepAndTriggers :
    fLe 0x3F800000 (fAdd 0x3F7F0000 0x3CB9C277) = true ∧ fLe 0x3F800000 (fAdd 0x00000000 0x3B149B93) = false ∧
    fLe (fSub 0x3F333333 0x396DC5B8) 0x3F333333 = true ∧ fLe (fSub 0x3F800000 0x396DC5B8) 0x3F333333 = false ∧
    fLe (fSub 0x00000000 0x38EDC5B8) 0x00000000 = true ∧ fLe (fSub 0x3F333333 0x38EDC5B8) 0x00000000 = false := by
  decide +kernel

/-- Finite words with and without a zero, the two zero divisions, a NaN, and infinities of like and unlike sign. -/
theorem witness_ArithmeticIsBinary32RoundedToNearestEven :
    fIsFinite 0x7F7FFFFF = true ∧ fIsFinite 0x00000001 = true ∧ fScaled 0x00000001 ≠ 0 ∧
    fIsFinite 0x80000000 = true ∧ fScaled 0x80000000 = 0 ∧ fIsNaN 0x7FC00000 = true ∧
    fIsInf 0x7F800000 = true ∧ fIsInf 0xFF800000 = true ∧ fIsNaN 0x7F800000 = false ∧ fIsNaN 0xFF800000 = false ∧
    fSign 0x7F800000 ≠ fSign 0xFF800000 ∧ fScaled 0x7F800000 ≠ 0 ∧ fIsNaN 0x00000001 = false := by
  decide +kernel

/-- Ties to even below and above, and at the middle of the largest finite value and 2^128 (IEEE 754, R11). -/
theorem test_ties_to_even :
    fAdd 0x3F800000 0x33800000 = 0x3F800000 ∧ fAdd 0x3F800001 0x33800000 = 0x3F800002 ∧
    fAdd 0x7F7FFFFF 0x73000000 = 0x7F800000 ∧ fAdd 0x7F7FFFFF 0x72FFFFFF = 0x7F7FFFFF := by decide +kernel

/-- A finite value, and magnitudes at and above 2^23, infinity among them; the largest n of `i2f`. -/
theorem witness_ComparisonsAndHelpersActOnValues :
    fIsFinite 0xBF000000 = true ∧ fIsNaN 0x4B000000 = false ∧ 2 ^ 172 ≤ (fScaled 0x4B000000).natAbs ∧
    fIsNaN 0xFF800000 = false ∧ 2 ^ 172 ≤ (fScaled 0xFF800000).natAbs ∧ 2 ^ 24 ≤ 2 ^ 24 := by decide +kernel

theorem witness_EnvStepKeepsTheValueInRange :
    envOk (envState .attack 0x3F800000 0x3F333333) ∧
    fLe 0x00000000 (envState .attack 0x3F800000 0x3F333333).envSus = true ∧
    fLe (envState .attack 0x3F800000 0x3F333333).envSus 0x3F800000 = true ∧
    (∀ r ∈ [State.reset.envArate, State.reset.envDrate, State.reset.envRrate],
      fLe 0x00000000 r = true ∧ fLe r 0x3F800000 = true) ∧ envOk State.reset := by
  refine ⟨by decide +kernel, by decide +kernel, by decide +kernel, fun r h => ?_, by decide +kernel⟩
  simp only [List.mem_cons, List.not_mem_nil, or_false] at h
  rcases h with rfl | rfl | rfl <;> decide +kernel

/-- The value at 0 and just below 1, the rate at its lower bound and at 1. -/
theorem witness_AttackRisesStrictlyUntilDecay :
    (envState .attack 0x00000000 0).envStage = .attack ∧ fLe 0x00000000 0x00000000 = true ∧
    fLt 0x00000000 0x3F800000 = true ∧ fLe 0x34CAE629 0x34CAE629 = true ∧ fLe 0x34CAE629 0x3F800000 = true ∧
    fLe 0x00000000 0x3F7FFFFF = true ∧ fLt 0x3F7FFFFF 0x3F800000 = true ∧ fLe 0x3F800000 0x3F800000 = true := by
  decide +kernel

/-- A contour that is not clamped, and one that is; the envelope at 0 and at 1. -/
theorem witness_FilterTargetAndResonanceAreClamped :
    legalFilt { en := true, contourEn := true, cutoff := 0x447A0000, res := 0x3FC00000, contour := 0x457A0000 } = true ∧
    legalFilt { en := true, contourEn := true, cutoff := 0x7F7FFFFF, res := 0xBE4CCCCD, contour := 0x7F7FFFFF } = true ∧
    fLe 0x00000000 0x00000000 = true ∧ fLe 0x00000000 0x3F800000 = true ∧ fLe 0x3F800000 0x3F800000 = true := by
  decide +kernel

/-- Up and down, from the ends of the range (V-FLT-3, V-FLT-4). -/
theorem witness_FilterCutoffMovesTowardItsTarget :
    cutoffOk State.reset ∧ fLe 0x41A00000 0x41A00000 = true ∧ fLe 0x41A00000 0x469C4000 = true ∧
    fLe 0x41A00000 State.reset.filtFc = true ∧ cutoffOk { State.reset with filtFc := 0x41A00000 } ∧
    fLe 0x469C4000 0x469C4000 = true ∧ fLe ({ State.reset with filtFc := 0x41A00000 } : State).filtFc 0x469C4000 = true := by
  decide +kernel

/-- The hypotheses name five values; from the reset state each has one. -/
theorem witness_FilterSampleFollowsTheEquation : ∃ fc k g gain y : F32,
    fc = fAdd State.reset.filtFc (fMul 0x396DBED1#32 (fSub (filtTarget State.reset.cfgActive.filt 0x3F000000) State.reset.filtFc)) ∧
    k = fClamp State.reset.cfgActive.filt.res 0x00000000#32 0x3F800000#32 ∧
    g = Config.numTan (fDiv (fMul 0x40490FDB#32 fc) 0x472C4400#32) ∧
    gain = fDiv g (fAdd 0x3F800000#32 g) ∧
    y = fDiv (fAdd (fMul gain (fSub 0x3F800000#32 State.reset.filtS)) State.reset.filtS) (fAdd 0x3F800000#32 (fMul gain k)) :=
  ⟨_, _, _, _, _, rfl, rfl, rfl, rfl, rfl⟩

/-- Infinity and the largest finite value are no NaN; 3.0 is at the edge. -/
theorem witness_HardSaturatorIsItsQuotientOddFiniteAndFlat :
    0xC0400000#32 = fClamp 0xFF800000 0xC0400000 0x40400000 ∧ 0x40400000#32 = fClamp 0x40400000 0xC0400000 0x40400000 ∧
    fIsNaN 0x7F800000 = false ∧ fIsNaN 0x40400000 = false ∧ fLe 0x40400000 0x40400000 = true := by
  decide +kernel

theorem witness_SoftSaturatorAndBoostChain :
    fIsFinite 0x7F7FFFFF = true ∧ fIsFinite 0x80000000 = true := by decide +kernel

/-- A configuration with the given fmult, gain, duration, sustain, pre and post, and filter fields beyond any range. -/
def bounded (fmult gain d sustain pre post : F32) : SynthConfig :=
  { resetConfig with
    osc := Vector.replicate 3 { en := true, wave := 3, fmult, gain }
    env := { attack := d, decay := d, sustain, release := d }
    boost := { pre, post }
    filt := { en := true, contourEn := true, cutoff := 0xFF7FFFFF, res := 0x7F7FFFFF, contour := 0x7F7FFFFF } }

theorem witness_AdoptConsumesAndTakesOnlyLegalConfigurations :
    State.reset.mboxPending = false ∧
    ({ State.reset with mboxPending := true } : State).mboxPending = true ∧ legal State.reset.mboxSlot = true ∧
    legal { resetConfig with env := { resetConfig.env with sustain := 0x7FC00000 } } = false := by
  decide +kernel

/-- Every field at its lower bound, at its upper bound, and one of each range one word past it (R33). -/
theorem test_legal_at_the_bounds :
    legal (bounded 0xC3800000 0xC1000000 0x00000000 0x00000000 0x00000000 0x00000000) = true ∧
    legal (bounded 0x43800000 0x41000000 0x42700000 0x3F800000 0x42800000 0x41000000) = true ∧
    legal (bounded 0x43800001 0 0 0 0 0) = false ∧ legal (bounded 0xC3800001 0 0 0 0 0) = false ∧
    legal (bounded 0 0x41000001 0 0 0 0) = false ∧ legal (bounded 0 0xC1000001 0 0 0 0) = false ∧
    legal (bounded 0 0 0x42700001 0 0 0) = false ∧ legal (bounded 0 0 0x80000001 0 0 0) = false ∧
    legal (bounded 0 0 0 0x3F800001 0 0) = false ∧ legal (bounded 0 0 0 0 0x42800001 0) = false ∧
    legal (bounded 0 0 0 0 0 0x41000001) = false ∧
    legal { bounded 0 0 0 0 0 0 with filt := { resetConfig.filt with cutoff := 0x7F800000 } } = false := by
  decide +kernel

theorem witness_EmptyVoiceReleasesOnceAndClearsTheArpeggiator :
    ({ State.reset with voiceEn := true, voiceNote := 60 } : State).voiceEn = true ∧ State.reset.voiceEn = false := by
  decide +kernel

theorem witness_SelectedNoteIsAHeldNote :
    heldThree.trkLen ≠ 0 ∧ heldThree.cfgActive.arp.en = false ∧
    ({ heldThree with cfgActive := { resetConfig with arp := beat } } : State).cfgActive.arp.en = true := by
  decide +kernel

theorem witness_RetriggerRestartsAttackOnANewNote :
    (60 : U8) ≠ State.reset.voiceNote ∧ State.reset.voiceEn = false ∧
    (64 : U8) = ({ State.reset with voiceEn := true, voiceNote := 64 } : State).voiceNote := by
  decide +kernel

theorem witness_SampleRunsThePipelineOnce :
    State.reset.cfgActive.filt.en = false ∧
    (filtState { en := true, contourEn := false, cutoff := 0x447A0000, res := 0, contour := 0 } 0x469C4000).cfgActive.filt.en
      = true := by decide +kernel

/-- A tick that finds no note, and one that drains a note-on. -/
theorem witness_TickIsTheSequenceOfItsSteps :
    (drain (adopt State.reset)).trkLen = 0 ∧ (drain (adopt queued)).trkLen ≠ 0 := by decide +kernel

/-- After a tick of `queued` a note is held with no arpeggiator; after one of the reset state none is held. -/
theorem witness_TickSettlesTheVoice : (∃ t, exec (.tick 0) queued = .next t ∧ t.cfgActive.arp.en = false ∧ t.trkLen ≠ 0) ∧
    ∃ t, exec (.tick 0) State.reset = .next t ∧ t.trkLen = 0 := by
  obtain ⟨_, _, _, _, _, _, h, _⟩ := tickWith_frame Config.blockSize Config.numTan 0 queued
  obtain ⟨_, _, _, _, _, _, h', _⟩ := tickWith_frame Config.blockSize Config.numTan 0 State.reset
  refine ⟨⟨_, rfl, ?_, ?_⟩, _, rfl, ?_⟩
  · rw [h]; show (tickControl 0 queued).cfgActive.arp.en = false; decide +kernel
  · rw [h]; show (tickControl 0 queued).trkLen ≠ 0; decide +kernel
  · rw [h']; show (tickControl 0 State.reset).trkLen = 0; decide +kernel

theorem witness_TickSamplesAreClampedToTheUnitRange :
    controlOk { queued with mboxPending := true } ∧ phasesOk queued ∧ envOk queued ∧ queued.cfgActive.filt.en = false ∧
    queued.mboxSlot.filt.en = false := by decide +kernel

/-- A full queue, one entry more than 31, and an empty one. -/
theorem witness_StatusReadsReturnTheirElementsAndFields :
    queueOk { State.reset with evq := List.replicate 32 0 } ∧ queueOk State.reset := by decide +kernel

theorem witness_EventPushAndOverflowFlag :
    (List.replicate 31 (0 : U32)).length < 32 ∧ 32 ≤ (List.replicate 32 (0 : U32)).length ∧
    (0x00010000#32).getLsbD 16 = true ∧ (0xFFFEFFFF#32).getLsbD 16 = false := by decide +kernel

theorem witness_CommittedConfigurationReadsBackAfterATick :
    stageOk State.reset ∧ legal (decodeCfg State.reset.cfgStage) = true := by decide +kernel

theorem witness_DecodeCfgInvertsEncodeCfg : ∀ k : Fin 22, resetStage[k] &&& cfgMask k = resetStage[k] := by
  decide +kernel

/-- A mapped offset and the ends of the reserved ranges. -/
theorem witness_ReadsHaveNoSideEffect :
    (0x1FC : Offset).toNat % 4 = 0 ∧ reservedOffset 0x058 = true ∧ reservedOffset 0x07C = true ∧
    reservedOffset 0x0D0 = true ∧ reservedOffset 0x0FC = true ∧ reservedOffset 0x158 = true ∧
    reservedOffset 0x1FC = true ∧ (0x154 : Offset).toNat % 4 = 0 ∧ reservedOffset 0x154 = false := by
  decide +kernel

theorem witness_WritesReachOnlyTheHostSideOfTheVE :
    (0x088 : Offset).toNat % 4 = 0 ∧ (0x058 : Offset).toNat % 4 = 0 ∧ reservedOffset 0x058 = true := by
  decide +kernel

theorem witness_IllegalAccessesAreRecordedAndDoNothing : (2 : Nat) ≠ 4 ∧ (0x1FF : Offset).toNat % 4 ≠ 0 := by
  decide +kernel

theorem witness_ResetReadsAreTheListedValues :
    (0x000 : Nat) ∈ [(0x000 : Nat), 0x100] ∧ (0x1FC : Offset).toNat % 4 = 0 ∧ reservedOffset 0x1FC = true := by
  decide +kernel

/-- A write of the queue and a tick, from a state that meets every invariant. -/
theorem witness_StepKeepsTheControlInvariants :
    (controlOk (waiting (.access (.write 0x088 4 1))) ∧ ∃ t, step (waiting (.access (.write 0x088 4 1))) = .next t) ∧
    controlOk (waiting (.tick 0)) ∧ ∃ t, step (waiting (.tick 0)) = .next t :=
  ⟨⟨by decide +kernel, _, rfl⟩, by decide +kernel, _, rfl⟩

theorem witness_StepKeepsPhasesInRange :
    controlOk (waiting (.tick 0)) ∧ phasesOk (waiting (.tick 0)) ∧ ∃ t, step (waiting (.tick 0)) = .next t :=
  ⟨by decide +kernel, by decide +kernel, _, rfl⟩

theorem witness_StepKeepsTheEnvelopeInRange :
    controlOk (waiting (.tick 0)) ∧ envOk (waiting (.tick 0)) ∧ ∃ t, step (waiting (.tick 0)) = .next t :=
  ⟨by decide +kernel, by decide +kernel, _, rfl⟩

theorem witness_StepKeepsTheCutoffInRange :
    controlOk (waiting (.tick 0)) ∧ envOk (waiting (.tick 0)) ∧ cutoffOk (waiting (.tick 0)) ∧
    ∃ t, step (waiting (.tick 0)) = .next t :=
  ⟨by decide +kernel, by decide +kernel, by decide +kernel, _, rfl⟩

end Sys2Proof.Tests
end

/-! PROOFS. Binary32 arithmetic, comparisons and helper functions (00_scope.md R11 to R13): what each operation answers
on finite operands, infinities and NaNs, and the obligations O31 and O23 put together from that. -/

namespace Sys2Proof.Machine

/-! ## Floor and conversion -/

/-- From 2^23 on in magnitude every value is a whole number, since its significand has 24 bits. -/
theorem whole_of_large {x : F32} (h : 2 ^ 172 ≤ fMag x) : (2 : Int) ^ 149 ∣ fScaled x := by
  obtain ⟨m, e, hm, hv⟩ := fMag_significand x
  have he : 149 ≤ e := by
    by_contra hlt
    have hpow : 2 ^ e ≤ 2 ^ 148 := Nat.pow_le_pow_right (by norm_num) (by omega)
    have : m * 2 ^ e < 2 ^ 24 * 2 ^ 148 := Nat.mul_lt_mul_of_lt_of_le hm hpow (by norm_num)
    omega
  have hdvd : 2 ^ 149 ∣ fMag x := hv ▸ (pow_dvd_pow 2 he).mul_left m
  rw [← natAbs_scaled] at hdvd
  exact Int.natCast_dvd.2 hdvd

/-- The floor of a finite value, in units of 2^-149. -/
theorem fFloor_exact {x : F32} (hx : fIsFinite x = true) :
    fIsFinite (fFloor x) = true ∧ fScaled (fFloor x) = fScaled x / 2 ^ 149 * 2 ^ 149 := by
  rcases Nat.lt_or_ge (fMag x) (2 ^ 172) with hs | hl
  · exact fFloor_small hs
  · rw [fFloor_large (not_nan_of_finite hx) hl, Int.ediv_mul_cancel (whole_of_large hl)]
    exact ⟨hx, rfl⟩

/-- `i2f` of a representable integer is that integer. -/
theorem i2f_of_pattern {n k : Nat} (hk : patMag k = n * 2 ^ 149) (hlt : k < 0x7F800000) :
    fIsFinite (i2f n) = true ∧ fScaled (i2f n) = (n : Int) * 2 ^ 149 := by
  have hr : roundMag (n * 2 ^ 149) 1 = k := by
    have := roundMag_patMag k 1 hlt.le one_pos
    rwa [mul_one, hk] at this
  rw [i2f, hr]
  refine ⟨fPack_finite _ hlt, ?_⟩
  rw [fScaled_fPack _ (by omega), if_neg Bool.false_ne_true, hk]
  push_cast
  rfl

theorem i2f_exact {n : Nat} (hn : n ≤ 2 ^ 24) :
    fIsFinite (i2f n) = true ∧ fScaled (i2f n) = (n : Int) * 2 ^ 149 := by
  obtain ⟨k, hk⟩ : ∃ k, patMag k = n * 2 ^ 149 := by
    rcases hn.lt_or_eq with hlt | rfl
    · exact exists_pattern n 149 hlt
    · obtain ⟨k, hk⟩ := exists_pattern (2 ^ 23) 150 (by norm_num)
      exact ⟨k, hk.trans (by norm_num)⟩
  refine i2f_of_pattern hk ?_
  rw [← patMag_lt_iff, hk, patMag_inf]
  exact (Nat.mul_le_mul_right _ hn).trans_lt (by norm_num)

/-- Settles O31: the comparisons by their definitions, the floor from the floor division of units. -/
theorem comparisonsAndHelpersActOnValues : Obligations.ComparisonsAndHelpersActOnValues := by
  unfold Obligations.ComparisonsAndHelpersActOnValues
  refine ⟨fun x y => ⟨fLt_iff x y, fLe_iff x y, fEq_iff x y⟩, fun x hx => ?_, fun x hx h => ?_, fun _ _ _ => rfl,
    fun _ _ => rfl, fun _ => ⟨rfl, rfl⟩, fun n hn => i2f_exact hn⟩
  · obtain ⟨hfin, hval⟩ := fFloor_exact hx
    exact ⟨hfin, fScaled x / 2 ^ 149, hval, by omega, by omega⟩
  · exact fFloor_large hx (by rwa [← natAbs_scaled])

/-! ## Fields and classes -/

theorem fExpo_eq_zero_iff (x : F32) : fExpo x = 0 ↔ x.extractLsb' 23 8 = 0#8 :=
  BitVec.toNat_inj (y := 0#8)

theorem fExpo_eq_max_iff (x : F32) : fExpo x = 255 ↔ x.extractLsb' 23 8 = 0xFF#8 :=
  BitVec.toNat_inj (y := 0xFF#8)

theorem fFrac_eq_zero_iff (x : F32) : fFrac x = 0 ↔ x.extractLsb' 0 23 = 0#23 :=
  BitVec.toNat_inj (y := 0#23)

theorem fIsFinite_iff_fields (x : F32) : fIsFinite x = true ↔ x.extractLsb' 23 8 ≠ 0xFF#8 := by
  rw [fIsFinite, bne_iff_ne, ne_eq, fExpo_eq_max_iff]

theorem fIsInf_iff_fields (x : F32) :
    fIsInf x = true ↔ x.extractLsb' 23 8 = 0xFF#8 ∧ x.extractLsb' 0 23 = 0#23 := by
  rw [fIsInf, Bool.and_eq_true, beq_iff_eq, beq_iff_eq, fExpo_eq_max_iff, fFrac_eq_zero_iff]

theorem fIsNaN_iff_fields (x : F32) :
    fIsNaN x = true ↔ x.extractLsb' 23 8 = 0xFF#8 ∧ x.extractLsb' 0 23 ≠ 0#23 := by
  rw [fIsNaN, Bool.and_eq_true, beq_iff_eq, bne_iff_ne, ne_eq, fExpo_eq_max_iff, fFrac_eq_zero_iff]

/-- The value is the sign times the significand at its exponent (R72). -/
theorem fScaled_eq_fields (x : F32) :
    fScaled x = (if fSign x then -1 else 1) * (if x.extractLsb' 23 8 = 0#8 then ((x.extractLsb' 0 23).toNat : Int)
      else (2 ^ 23 + (x.extractLsb' 0 23).toNat) * 2 ^ ((x.extractLsb' 23 8).toNat - 1)) := by
  have hmag : (fMag x : Int) = if x.extractLsb' 23 8 = 0#8 then ((x.extractLsb' 0 23).toNat : Int)
      else (2 ^ 23 + (x.extractLsb' 0 23).toNat) * 2 ^ ((x.extractLsb' 23 8).toNat - 1) := by
    rw [fMag, Nat.cast_ite, if_congr (fExpo_eq_zero_iff x) rfl rfl]
    push_cast
    rfl
  rw [← hmag, fScaled]
  split
  · rw [neg_one_mul]
  · rw [one_mul]

theorem fScaled_eq_zero_iff (x : F32) : fScaled x = 0 ↔ fMag x = 0 := by
  rw [← Int.natAbs_eq_zero, natAbs_scaled]

theorem fMag_of_inf {x : F32} (h : fIsInf x = true) : fMag x = 2 ^ 149 * 2 ^ 128 := by
  rw [fMag_eq, (fIsInf_iff x).1 h, patMag_inf]

theorem fMag_ne_zero_of_inf {x : F32} (h : fIsInf x = true) : fMag x ≠ 0 := by
  rw [fMag_of_inf h]; norm_num

theorem inf_or_finite {x : F32} (h : fIsNaN x = false) : fIsInf x = true ∨ fIsFinite x = true := by
  rw [fIsNaN_false_iff] at h
  rw [fIsInf_iff, fIsFinite_iff]
  omega

@[simp] theorem fIsInf_neg (x : F32) : fIsInf (fNeg x) = fIsInf x := by
  rw [Bool.eq_iff_iff, fIsInf_iff, fIsInf_iff, fNeg_toNat_mod]

theorem fIsNaN_freeNaN (op : FloatOp) (x y : F32) : fIsNaN (freeNaN op x y) = true := by
  have hlt := (Config.nanFraction op x y).isLt
  rw [fIsNaN_iff, freeNaN, fPack_toNat _ (by omega)]
  split <;> omega

/-- The infinity a product or quotient of these operands answers. -/
theorem fInf_of_signs (x y : F32) :
    fInf (fSign x != fSign y) = if fSign x = fSign y then 0x7F800000#32 else 0xFF800000#32 := by
  cases fSign x <;> cases fSign y <;> rfl

/-- The zero a quotient of these operands answers. -/
theorem zero_of_signs (x y : F32) :
    fPack (fSign x != fSign y) 0 = if fSign x = fSign y then 0x00000000#32 else 0x80000000#32 := by
  cases fSign x <;> cases fSign y <;> rfl

/-! ## Sums and differences -/

theorem fSign_fRoundInt (z : F32) (v : Int) :
    fSign (fRoundInt z v) = if v = 0 then fSign z else decide (v < 0) := by
  unfold fRoundInt
  split
  · rfl
  · exact fSign_fPack _ ((roundMag_le_inf _ _).trans_lt (by norm_num))

/-- The sign of the zero that a sum of zeros answers. -/
theorem fSign_zeroSum (a b : Bool) : fSign (if (a && b) = true then fNegZero else fZero) = (a && b) := by
  cases a <;> cases b <;> rfl

section
variable {x y : F32} (hx : fIsFinite x = true) (hy : fIsFinite y = true)
include hx hy

theorem fSum_roundsTo (nan : F32) : roundsTo (fScaled x + fScaled y) 1 (fSum nan x y) := by
  rw [fSum_finite nan hx hy]
  exact fRoundInt_roundsTo (by split <;> simp) _

theorem fSign_fSum (nan : F32) : fSign (fSum nan x y) =
    if fScaled x + fScaled y = 0 then fSign x && fSign y else decide (fScaled x + fScaled y < 0) := by
  rw [fSum_finite nan hx hy, fSign_fRoundInt, fSign_zeroSum]

theorem fSub_roundsTo : roundsTo (fScaled x - fScaled y) 1 (fSub x y) := by
  have h := fSum_roundsTo hx ((fIsFinite_neg y).trans hy) (freeNaN .sub x y)
  rwa [fScaled_neg, ← sub_eq_add_neg] at h

theorem fSign_fSub : fSign (fSub x y) =
    if fScaled x - fScaled y = 0 then fSign x && !fSign y else decide (fScaled x - fScaled y < 0) := by
  have h := fSign_fSum hx ((fIsFinite_neg y).trans hy) (freeNaN .sub x y)
  rwa [fScaled_neg, ← sub_eq_add_neg, fSign_neg] at h

end

theorem fSum_of_nan (nan : F32) {x y : F32} (h : fIsNaN x = true ∨ fIsNaN y = true) : fSum nan x y = nan := by
  rw [fSum, if_pos (by simpa using h)]

section
variable (nan : F32) {x y : F32} (hx : fIsNaN x = false) (hy : fIsNaN y = false)
include hx hy

theorem fSum_of_opposite_infs (ix : fIsInf x = true) (iy : fIsInf y = true) (hs : fSign x ≠ fSign y) :
    fSum nan x y = nan := by
  simp [fSum, hx, hy, ix, iy, hs]

/-- An infinity absorbs any second operand but the opposite infinity. -/
theorem fSum_of_inf_left (ix : fIsInf x = true) (h : fIsInf y = true → fSign x = fSign y) : fSum nan x y = x := by
  simpa [fSum, hx, hy, ix] using fun iy hs => absurd (h iy) hs

theorem fSum_of_inf_right (fx : fIsFinite x = true) (iy : fIsInf y = true) : fSum nan x y = y := by
  simp [fSum, hx, hy, not_inf_of_finite fx, iy]

end

/-! ## Products -/

theorem fMul_roundsTo {x y : F32} (hx : fIsFinite x = true) (hy : fIsFinite y = true) :
    roundsTo (fScaled x * fScaled y) (2 ^ 149) (fMul x y) := by
  have h := pack_roundsTo (fSign x != fSign y) (fMag x * fMag y) (den := 2 ^ 149) (by positivity)
  rwa [signed_product, Nat.cast_pow, Nat.cast_ofNat, ← fMul_finite hx hy] at h

theorem fMul_of_nan {x y : F32} (h : fIsNaN x = true ∨ fIsNaN y = true) : fMul x y = freeNaN .mul x y := by
  rw [fMul, if_pos (by simpa using h)]

section
variable {x y : F32} (hx : fIsNaN x = false) (hy : fIsNaN y = false) (hinf : fIsInf x = true ∨ fIsInf y = true)
include hx hy hinf

theorem fMul_of_inf_zero (h0 : fScaled x = 0 ∨ fScaled y = 0) : fMul x y = freeNaN .mul x y := by
  rw [fScaled_eq_zero_iff, fScaled_eq_zero_iff] at h0
  rcases Bool.eq_false_or_eq_true (fIsInf x) with ix | nx
  · simp [fMul, hx, hy, ix, h0.resolve_left (fMag_ne_zero_of_inf ix)]
  · have iy := hinf.resolve_left (by simp [nx])
    simp [fMul, hx, hy, nx, iy, h0.resolve_right (fMag_ne_zero_of_inf iy)]

theorem fMul_of_inf (hx0 : fScaled x ≠ 0) (hy0 : fScaled y ≠ 0) : fMul x y = fInf (fSign x != fSign y) := by
  rw [ne_eq, fScaled_eq_zero_iff] at hx0 hy0
  rcases Bool.eq_false_or_eq_true (fIsInf x) with ix | nx
  · simp [fMul, hx, hy, ix, hy0]
  · simp [fMul, hx, hy, nx, hinf.resolve_left (by simp [nx]), hx0]

end

/-! ## Quotients -/

/-- The signed quotient of magnitudes, with a negative divisor's sign moved to the numerator. -/
theorem fDiv_roundsTo {x y : F32} (hx : fIsFinite x = true) (hy : fIsFinite y = true) (h0 : fScaled y ≠ 0) :
    roundsTo (fScaled x * 2 ^ 149) (fScaled y) (fDiv x y) := by
  have h := pack_roundsTo (fSign x != fSign y) (fMag x * 2 ^ 149) (fMag_pos_of_scaled h0)
  rw [← fDiv_finite hx hy h0] at h
  cases hs : fSign y
  · have hnum : (if (fSign x != fSign y) = true then -((fMag x * 2 ^ 149 : Nat) : Int) else (fMag x * 2 ^ 149 : Nat))
        = fScaled x * 2 ^ 149 := by
      rw [hs, fScaled]; cases fSign x <;> simp
    rwa [hnum, ← fScaled_nonneg hs] at h
  · have hnum : (if (fSign x != fSign y) = true then -((fMag x * 2 ^ 149 : Nat) : Int) else (fMag x * 2 ^ 149 : Nat))
        = -(fScaled x * 2 ^ 149) := by
      rw [hs, fScaled]; cases fSign x <;> simp
    have hden : (fMag y : Int) = -fScaled y := by rw [fScaled, hs, if_pos rfl, neg_neg]
    rw [hnum, hden] at h
    simpa only [neg_neg] using roundsTo_neg h

theorem fDiv_of_nan {x y : F32} (h : fIsNaN x = true ∨ fIsNaN y = true) : fDiv x y = freeNaN .div x y := by
  rw [fDiv, if_pos (by simpa using h)]

section
variable {x y : F32} (hx : fIsFinite x = true) (hy : fIsFinite y = true) (hy0 : fScaled y = 0)
include hx hy hy0

theorem fDiv_zero_by_zero (hx0 : fScaled x = 0) : fDiv x y = freeNaN .div x y := by
  rw [fScaled_eq_zero_iff] at hx0 hy0
  simp [fDiv, not_nan_of_finite, not_inf_of_finite, hx, hy, hx0, hy0]

theorem fDiv_by_zero (hx0 : fScaled x ≠ 0) : fDiv x y = fInf (fSign x != fSign y) := by
  rw [ne_eq, fScaled_eq_zero_iff] at hx0
  rw [fScaled_eq_zero_iff] at hy0
  simp [fDiv, not_nan_of_finite, not_inf_of_finite, hx, hy, hx0, hy0]

end

section
variable {x y : F32} (hx : fIsNaN x = false) (hy : fIsNaN y = false)
include hx hy

theorem fDiv_of_infs (ix : fIsInf x = true) (iy : fIsInf y = true) : fDiv x y = freeNaN .div x y := by
  simp [fDiv, hx, hy, ix, iy]

theorem fDiv_of_inf_left (ix : fIsInf x = true) (fy : fIsFinite y = true) : fDiv x y = fInf (fSign x != fSign y) := by
  simp [fDiv, hx, hy, ix, not_inf_of_finite fy]

theorem fDiv_of_inf_right (fx : fIsFinite x = true) (iy : fIsInf y = true) : fDiv x y = fPack (fSign x != fSign y) 0 := by
  simp [fDiv, hx, hy, not_inf_of_finite fx, iy]

end

/-! ## IEEE 754 binary32 -/

/-- A NaN operand gives a NaN. -/
theorem arithmetic_of_nan {x y : F32} (h : fIsNaN x = true ∨ fIsNaN y = true) :
    fIsNaN (fAdd x y) = true ∧ fIsNaN (fSub x y) = true ∧ fIsNaN (fMul x y) = true ∧ fIsNaN (fDiv x y) = true := by
  rw [fAdd, fSub, fSum_of_nan _ h, fSum_of_nan _ (by rwa [fIsNaN_neg]), fMul_of_nan h, fDiv_of_nan h]
  exact ⟨fIsNaN_freeNaN .., fIsNaN_freeNaN .., fIsNaN_freeNaN .., fIsNaN_freeNaN ..⟩

/-- Settles O23: the fields, then finite operands, NaN operands and infinite operands. -/
theorem arithmeticIsBinary32RoundedToNearestEven : Obligations.ArithmeticIsBinary32RoundedToNearestEven := by
  unfold Obligations.ArithmeticIsBinary32RoundedToNearestEven
  refine ⟨fun x => ⟨rfl, fIsFinite_iff_fields x, fIsInf_iff_fields x, fIsNaN_iff_fields x, fScaled_eq_fields x⟩,
    fun x y hx hy => ⟨fSum_roundsTo hx hy _, fSub_roundsTo hx hy, fMul_roundsTo hx hy, fDiv_roundsTo hx hy,
      fSign_fSum hx hy _, fSign_fSub hx hy, fSign_mul hx hy, fSign_div hx hy, fun hy0 hx0 => ?zeroByZero,
      fun hy0 hx0 => ?byZero⟩,
    fun x y => arithmetic_of_nan,
    fun x y hx hy => ?infinite⟩
  case zeroByZero => rw [fDiv_zero_by_zero hx hy hy0 hx0]; exact fIsNaN_freeNaN ..
  case byZero => rw [fDiv_by_zero hx hy hy0 hx0, fInf_of_signs]
  case infinite =>
    have hny : fIsNaN (fNeg y) = false := (fIsNaN_neg y).trans hy
    have hinf : fIsInf y = true → fIsInf (fNeg y) = true := (fIsInf_neg y).trans
    refine ⟨fun ix iy hs => ⟨?_, ?_⟩, fun ix iy hs => ⟨?_, ?_⟩, fun ix fy => ⟨?_, ?_⟩, fun fx iy => ⟨?_, ?_⟩,
      fun hi h0 => ?_, fun hi hx0 hy0 => ?_, fun ix iy => ?_, fun ix fy => ?_, fun fx iy => ?_⟩
    · rw [fAdd, fSum_of_opposite_infs _ hx hy ix iy hs]; exact fIsNaN_freeNaN ..
    · exact fSum_of_inf_left _ hx hny ix fun _ => by rw [fSign_neg]; exact Bool.eq_not_of_ne hs
    · exact fSum_of_inf_left _ hx hy ix fun _ => hs
    · rw [fSub, fSum_of_opposite_infs _ hx hny ix (hinf iy) (by simp [fSign_neg, hs])]; exact fIsNaN_freeNaN ..
    · exact fSum_of_inf_left _ hx hy ix fun iy => by simp [not_inf_of_finite fy] at iy
    · exact fSum_of_inf_left _ hx hny ix fun iy => by simp [not_inf_of_finite fy] at iy
    · exact fSum_of_inf_right _ hx hy fx iy
    · exact fSum_of_inf_right _ hx hny fx (hinf iy)
    · rw [fMul_of_inf_zero hx hy hi h0]; exact fIsNaN_freeNaN ..
    · rw [fMul_of_inf hx hy hi hx0 hy0, fInf_of_signs]
    · rw [fDiv_of_infs hx hy ix iy]; exact fIsNaN_freeNaN ..
    · rw [fDiv_of_inf_left hx hy ix fy, fInf_of_signs]
    · rw [fDiv_of_inf_right hx hy fx iy, zero_of_signs]

end Sys2Proof.Machine

/-! PROOFS. What every step keeps (10_state.md R33 to R45): the reset state meets the invariants, each kind of frame keeps
them, and a tick keeps them through its whole block; the obligations O55 to O59 put together from that. -/

namespace Sys2Proof.Machine

/-! ## Reset -/

theorem reset_controlOk : controlOk State.reset := by
  have empty : heldNotes State.reset = [] := rfl
  have tracker : trackerOk State.reset := by
    rw [trackerOk, empty]
    exact ⟨List.nodup_nil, List.not_mem_nil, by decide⟩
  have pitches : notesArePitches State.reset := by
    rw [notesArePitches, empty]
    exact List.forall_mem_nil _
  exact ⟨tracker, pitches, Nat.zero_le _, by decide, by decide, .inr rfl, Bool.noConfusion⟩

/-- Settles O55: each invariant is evaluated on the reset state. -/
theorem resetMeetsTheInvariants : Obligations.ResetMeetsTheInvariants := by
  unfold Obligations.ResetMeetsTheInvariants
  exact ⟨reset_controlOk, by decide, by decide, by decide⟩

/-! ## The control invariants -/

/-- An event reaches the tracker alone. -/
theorem applyEvent_controlOk (w : U32) {s : State} (h : controlOk s) : controlOk (applyEvent w s) := by
  obtain ⟨tracker, pitches, rest⟩ := h
  refine ⟨applyEvent_trackerOk w tracker, applyEvent_pitches w pitches, ?_⟩
  rw [applyEvent_frame]
  exact rest

theorem hostBusError_controlOk (a : HostAccess) {s : State} (h : controlOk s) : controlOk (hostBusError a s) := by
  cases a <;> exact h

/-- Settles O56, by the kinds of step: a tick and an event have lemmas of their own, an accepted write keeps the reserved
staging bits zero and the queue within its capacity, and the rest touches none of these fields. -/
theorem stepKeepsTheControlInvariants : Obligations.StepKeepsTheControlInvariants := by
  unfold Obligations.StepKeepsTheControlInvariants
  intro s t h hstep
  obtain ⟨-, rfl⟩ | ⟨f, rest, -, tick | event | wave | badAccess | read | write⟩ := step_cases hstep
  · exact h
  · obtain ⟨now, rfl⟩ := tick
    exact tickWith_controlOk _ _ now h
  · obtain ⟨w, rfl⟩ := event
    exact applyEvent_controlOk w h
  · obtain ⟨r, rfl⟩ := wave
    exact h
  · obtain ⟨a, rfl⟩ := badAccess
    exact hostBusError_controlOk a h
  · obtain ⟨d, rfl⟩ := read
    exact h
  · obtain ⟨stage, slot, pending, q, ovf, arg, rfl, hstage, hqueue⟩ := write
    obtain ⟨tracker, pitches, queue, staging, config, voice⟩ := h
    exact ⟨tracker, pitches, hqueue queue, hstage staging, config, voice⟩

/-! ## Steps other than a tick -/

/-- `t` has the phases, the envelope and the cutoff of `s`. -/
structure SameSignal (s t : State) : Prop where
  oscPhase : t.oscPhase = s.oscPhase
  envValue : t.envValue = s.envValue
  envStage : t.envStage = s.envStage
  filtFc : t.filtFc = s.filtFc

/-- Only a tick moves a phase, the envelope or the cutoff (R294). -/
theorem step_tick_or_sameSignal {s t : State} (h : step s = .next t) :
    (∃ now rest, t = tickWith Config.blockSize Config.numTan now { s with inbox := rest }) ∨ SameSignal s t := by
  obtain ⟨-, rfl⟩ | ⟨f, rest, -, tick | event | wave | badAccess | read | write⟩ := step_cases h
  · exact .inr ⟨rfl, rfl, rfl, rfl⟩
  · obtain ⟨now, rfl⟩ := tick
    exact .inl ⟨now, rest, rfl⟩
  · obtain ⟨w, rfl⟩ := event
    rw [applyEvent_frame]
    exact .inr ⟨rfl, rfl, rfl, rfl⟩
  · obtain ⟨r, rfl⟩ := wave
    exact .inr ⟨rfl, rfl, rfl, rfl⟩
  · obtain ⟨a, rfl⟩ := badAccess
    cases a <;> exact .inr ⟨rfl, rfl, rfl, rfl⟩
  · obtain ⟨d, rfl⟩ := read
    exact .inr ⟨rfl, rfl, rfl, rfl⟩
  · obtain ⟨stage, slot, pending, q, ovf, arg, rfl, -, -⟩ := write
    exact .inr ⟨rfl, rfl, rfl, rfl⟩

/-! ## What a sample keeps -/

theorem sampleWith_configOk {tan : F32 → F32} {dt : F32} {s : State} (h : configOk s) :
    configOk (sampleWith tan dt s) := by
  rw [configOk, sampleWith_frame]
  exact h

theorem sampleWith_phasesOk {tan : F32 → F32} {dt : F32} (hd : between fZero dt fOne) {s : State} (hc : configOk s)
    (hp : phasesOk s) : phasesOk (sampleWith tan dt s) := by
  rw [phasesOk, sampleWith_frame]
  exact mixOscillators_phasesOk hc hp hd

theorem sampleWith_ratesOk {tan : F32 → F32} {dt : F32} {s : State} (h : ratesOk s) : ratesOk (sampleWith tan dt s) := by
  rw [sampleWith_frame]
  exact h

theorem sampleWith_envOk {tan : F32 → F32} {dt : F32} {s : State} (he : envOk s) (hr : ratesOk s) :
    envOk (sampleWith tan dt s) :=
  envOk_congr (s := envStep s) (by rw [sampleWith_frame]) (by rw [sampleWith_frame]) (envStep_envOk he hr)

/-! ## What a tick keeps -/

/-- The samples of a tick run under a legal configuration. -/
theorem tickControl_configOk (now : U32) {s : State} (h : configOk s) : configOk (tickControl now s) := by
  rw [configOk, tickControl_cfg]
  exact adopt_configOk h

/-- The phase increment of a tick lies in [0,1], so each sample of the block wraps its phases into range. -/
theorem tickWith_phasesOk (n : Nat) (tan : F32 → F32) (now : U32) {s : State} (hc : controlOk s) (hp : phasesOk s) :
    phasesOk (tickWith n tan now s) := by
  obtain ⟨-, pitches, -, -, config, voice⟩ := hc
  have hd := tickControl_dt now pitches voice
  have start : phasesOk (tickControl now s) := by rw [tickControl_frame]; exact hp
  exact (samplesWith_keeps (fun u => configOk u ∧ phasesOk u)
    (fun _ ⟨c, p⟩ => ⟨sampleWith_configOk c, sampleWith_phasesOk hd c p⟩) n
    ⟨tickControl_configOk now config, start⟩).2

/-- The control half sets rates in range, and with them each sample keeps the envelope in range. -/
theorem tickWith_envOk (n : Nat) (tan : F32 → F32) (now : U32) {s : State} (hc : configOk s) (he : envOk s) :
    envOk (tickWith n tan now s) :=
  (samplesWith_keeps (fun u => envOk u ∧ ratesOk u)
    (fun _ ⟨e, r⟩ => ⟨sampleWith_envOk e r, sampleWith_ratesOk r⟩) n
    ⟨tickControl_envOk now he, tickControl_ratesOk now hc⟩).1

/-- The cutoff follows a target that the configuration and the envelope keep in range. -/
theorem tickWith_cutoffOk (n : Nat) (tan : F32 → F32) (now : U32) {s : State} (hc : configOk s) (he : envOk s)
    (hf : cutoffOk s) : cutoffOk (tickWith n tan now s) := by
  have start : cutoffOk (tickControl now s) := by rw [tickControl_frame]; exact hf
  exact (samplesWith_keeps (fun u => cutoffOk u ∧ configOk u ∧ envOk u ∧ ratesOk u)
    (fun _ ⟨f, c, e, r⟩ => ⟨sampleWith_cutoff c e r f, sampleWith_configOk c, sampleWith_envOk e r, sampleWith_ratesOk r⟩) n
    ⟨start, tickControl_configOk now hc, tickControl_envOk now he, tickControl_ratesOk now hc⟩).1

/-! ## The signal invariants -/

/-- Settles O57: a tick keeps the phases in range, any other step leaves them alone. -/
theorem stepKeepsPhasesInRange : Obligations.StepKeepsPhasesInRange := by
  unfold Obligations.StepKeepsPhasesInRange
  intro s t hc hp hstep
  obtain ⟨now, rest, rfl⟩ | same := step_tick_or_sameSignal hstep
  · exact tickWith_phasesOk _ _ now hc hp
  · rw [phasesOk, same.oscPhase]
    exact hp

/-- Settles O58: a tick keeps the envelope in range, any other step leaves it alone. -/
theorem stepKeepsTheEnvelopeInRange : Obligations.StepKeepsTheEnvelopeInRange := by
  unfold Obligations.StepKeepsTheEnvelopeInRange
  intro s t ⟨_, _, _, _, config, _⟩ he hstep
  obtain ⟨now, rest, rfl⟩ | same := step_tick_or_sameSignal hstep
  · exact tickWith_envOk _ _ now config he
  · exact envOk_congr same.envValue same.envStage he

/-- Settles O59: a tick keeps the cutoff in range, any other step leaves it alone. -/
theorem stepKeepsTheCutoffInRange : Obligations.StepKeepsTheCutoffInRange := by
  unfold Obligations.StepKeepsTheCutoffInRange
  intro s t ⟨_, _, _, _, config, _⟩ he hf hstep
  obtain ⟨now, rest, rfl⟩ | same := step_tick_or_sameSignal hstep
  · exact tickWith_cutoffOk _ _ now config he hf
  · rw [cutoffOk, same.filtFc]
    exact hf

end Sys2Proof.Machine

/-! PROOFS. The register window and its ports (20_memory.md R71 to R76): decoding undoes encoding, a step runs one decoded
frame, and what an aligned access, an ignored one and an illegal one change. -/

namespace Sys2Proof.Machine

/-! ## Decode of encode -/

/-- An event word built from its fields decodes on those fields, in the priority order of R92. -/
theorem decodeEvent_evtWord (chan status : BitVec 4) (pitch : BitVec 7) (x15 : Bool) (vel : BitVec 7) (x23 : Bool)
    (b3 : U8) : decodeEvent (evtWord chan status pitch x15 vel x23 b3) =
      if status = 8 then .noteOff chan pitch x15 vel x23 b3
      else if status = 9 then if vel = 0 then .noteOnVel0 chan pitch x15 x23 b3 else .noteOn chan pitch x15 vel x23 b3
      else .evtIgnore chan status pitch x15 vel x23 b3 := by
  obtain ⟨hchan, hstatus, hpitch, hx15, hvel, hx23, hb3⟩ := evtWord_fields chan status pitch x15 vel x23 b3
  rw [decodeEvent, hchan, hstatus, hpitch, hx15, hvel, hx23, hb3]

theorem reservedOffset_aligned {addr : Offset} (h : reservedOffset addr = true) : addr.toNat % 4 = 0 := by
  obtain ⟨aligned, -⟩ := Bool.and_eq_true_iff.1 h
  exact of_decide_eq_true aligned

/-- Settles O1, by the rows of the opcode table. An event row needs its word's fields back, a reserved offset and an
illegal access need the operand to be well formed; every other frame has a literal offset or selector, which the decoder's
table maps back to its row, and an internal row has no frame (R118). -/
theorem decodeOfEncodeGivesTheInstructionBack : Obligations.DecodeOfEncodeGivesTheInstructionBack := by
  unfold Obligations.DecodeOfEncodeGivesTheInstructionBack
  intro i f wf h
  cases i with
  | noteOff chan pitch x15 vel x23 b3 =>
    cases h
    exact decodeEvent_evtWord ..
  | noteOnVel0 chan pitch x15 x23 b3 =>
    cases h
    exact decodeEvent_evtWord ..
  | noteOn chan pitch x15 vel x23 b3 =>
    cases h
    have hvel : vel ≠ 0 := of_decide_eq_true wf
    exact (decodeEvent_evtWord ..).trans (if_neg hvel)
  | evtIgnore chan status pitch x15 vel x23 b3 =>
    cases h
    obtain ⟨h8, h9⟩ : status ≠ 8 ∧ status ≠ 9 := by simpa [Instr.wellFormed] using wf
    exact (decodeEvent_evtWord ..).trans ((if_neg h8).trans (if_neg h9))
  | rdReserved addr =>
    cases h
    exact (decode_read (reservedOffset_aligned wf)).trans (decodeRead_reserved wf)
  | wrReserved addr v =>
    cases h
    exact (decode_write v (reservedOffset_aligned wf)).trans (decodeWrite_reserved v wf)
  | busError a =>
    cases h
    exact decode_illegal (by simpa [Instr.wellFormed] using wf)
  | _ => cases h <;> rfl

/-! ## A step -/

/-- Settles O4, by the two cases of `fetchFrame`. -/
theorem stepRunsTheDecodedInstruction : Obligations.StepRunsTheDecodedInstruction := by
  unfold Obligations.StepRunsTheDecodedInstruction
  refine ⟨fun s f rest h => ?_, fun s h => ?_⟩
  · have fetched : fetchFrame s = some (f, { s with inbox := rest }) := by rw [fetchFrame, h]
    rw [step, fetched]
  · have idle : fetchFrame s = none := by rw [fetchFrame, h]
    rw [step, idle]

/-! ## Aligned accesses -/

/-- Settles O50: a read of any offset is `hostRead` of a value that does not depend on the last response, and that value
is 0 at a reserved offset. -/
theorem readsHaveNoSideEffect : Obligations.ReadsHaveNoSideEffect := by
  unfold Obligations.ReadsHaveNoSideEffect
  intro addr s aligned
  rw [decode_read aligned]
  obtain ⟨d, run, rerun⟩ := decodeRead_exec addr s
  refine ⟨hostRead d s, run, rfl, rerun d false, fun reserved => ?_⟩
  rw [decodeRead_reserved reserved] at run
  have zero : hostRead 0 s = hostRead d s := Host.Outcome.next.inj run
  exact ⟨run, (congrArg State.hostData zero).symm⟩

/-- Settles O51: a write of any offset reaches the host's side alone, and at a reserved offset it is `hostWrote`. -/
theorem writesReachOnlyTheHostSideOfTheVE : Obligations.WritesReachOnlyTheHostSideOfTheVE := by
  unfold Obligations.WritesReachOnlyTheHostSideOfTheVE
  intro addr v s aligned
  rw [decode_write v aligned]
  obtain ⟨stage, slot, pending, q, ovf, arg, run, -⟩ := decodeWrite_exec addr v s
  refine ⟨_, run, rfl, fun reserved => ?_⟩
  rw [decodeWrite_reserved v reserved] at run
  exact ⟨run, (Host.Outcome.next.inj run).symm⟩

/-- Settles O44: the meaning of each ignored write is `hostWrote`, and of each read of a write-only register
`hostRead 0`. -/
theorem readOnlyWritesAreIgnored : Obligations.ReadOnlyWritesAreIgnored := by
  unfold Obligations.ReadOnlyWritesAreIgnored
  intro v s
  and_intros <;> rfl

/-! ## Illegal accesses -/

/-- An access of another size or of a misaligned offset is illegal, a read and a write alike (R71). -/
theorem isLegal_eq_false {addr : Offset} {size : Nat} (v : U32) (bad : size ≠ 4 ∨ addr.toNat % 4 ≠ 0) :
    (HostAccess.read addr size).isLegal = false ∧ (HostAccess.write addr size v).isLegal = false := by
  have test : (decide (size = 4) && decide (addr.toNat % 4 = 0)) = false := by
    rw [← Bool.decide_and, decide_eq_false_iff_not, not_and_or]
    exact bad
  exact ⟨test, test⟩

/-- Settles O52: such an access is not legal, so the decoder answers BUS_ERROR whatever the offset, and its meaning is
`hostBusError`. -/
theorem illegalAccessesAreRecordedAndDoNothing : Obligations.IllegalAccessesAreRecordedAndDoNothing := by
  unfold Obligations.IllegalAccessesAreRecordedAndDoNothing
  refine ⟨fun addr size v s bad => ?_, fun c => rfl⟩
  obtain ⟨badRead, badWrite⟩ := isLegal_eq_false v bad
  exact ⟨decode_illegal badRead, decode_illegal badWrite, rfl, rfl, rfl, rfl⟩

end Sys2Proof.Machine

/-! PROOFS. The encoding (30_encoding.md): every frame decodes to a well-formed instruction that keeps its bits; the kind
of an event word and what a tick sees of it; the configuration image; the status words a host reads. The obligations O2,
O3, O5, O7, O45, O46 and O49 put together from that. -/

namespace Sys2Proof.Machine

/-! ## Encode of decode -/

/-- An event word decodes to a row whose operands are the word's own fields. -/
theorem decodeEvent_encode (w : U32) :
    (decodeEvent w).wellFormed = true ∧ encode (decodeEvent w) = some (.event w) := by
  have self := evtWord_self w
  obtain ⟨h8, -, row⟩ | ⟨h9, h0, -, row⟩ | ⟨h9, hvel, -, row⟩ | ⟨h8, h9, -, row⟩ := evtKind_cases w <;> rw [row]
  · rw [h8] at self
    exact ⟨rfl, congrArg (some ∘ Frame.event) self⟩
  · rw [h9, h0] at self
    exact ⟨rfl, congrArg (some ∘ Frame.event) self⟩
  · rw [h9] at self
    exact ⟨decide_eq_true hvel, congrArg (some ∘ Frame.event) self⟩
  · exact ⟨Bool.and_eq_true_iff.2 ⟨decide_eq_true h8, decide_eq_true h9⟩, congrArg (some ∘ Frame.event) self⟩

theorem not_mem_offsets {α : Type} {table : List (Offset × α)} {addr : Offset}
    (unmapped : ∀ row ∈ table, row.1 ≠ addr) : addr ∉ table.map Prod.fst := by
  intro mapped
  obtain ⟨row, mem, offset⟩ := List.mem_map.1 mapped
  exact unmapped row mem offset

/-- A read decodes to a row of the table, or to RD_RESERVED of an offset that R75 marks reserved. -/
theorem decodeRead_encode {addr : Offset} (aligned : addr.toNat % 4 = 0) :
    (decodeRead addr).wellFormed = true ∧ encode (decodeRead addr) = some (.access (.read addr 4)) := by
  obtain mapped | ⟨unmapped, row⟩ := decodeRead_cases addr
  · exact readTable_encode _ mapped
  · rw [row]
    exact ⟨(reservedOffset_iff addr aligned).2 (not_mem_offsets unmapped), rfl⟩

/-- A write decodes to a row of the table, or to WR_RESERVED of an offset that R75 marks reserved. -/
theorem decodeWrite_encode {addr : Offset} (v : U32) (aligned : addr.toNat % 4 = 0) :
    (decodeWrite addr v).wellFormed = true ∧ encode (decodeWrite addr v) = some (.access (.write addr 4 v)) := by
  obtain ⟨row, mapped, rfl, decoded⟩ | ⟨unmapped, decoded⟩ := decodeWrite_cases addr v
  · rw [decoded]
    exact writeTable_encode v row mapped
  · rw [decoded]
    exact ⟨(reservedOffset_iff addr aligned).2 (tables_offsets ▸ not_mem_offsets unmapped), rfl⟩

/-- BUS_ERROR carries an illegal access whole; a legal one is a row of the register window. -/
theorem decodeAccess_encode (a : HostAccess) :
    (decode (.access a)).wellFormed = true ∧ encode (decode (.access a)) = some (.access a) := by
  cases legality : a.isLegal with
  | false =>
    rw [decode_illegal legality]
    exact ⟨by simp [Instr.wellFormed, legality], rfl⟩
  | true =>
    cases a with
    | read addr size =>
      obtain ⟨rfl, aligned⟩ : size = 4 ∧ addr.toNat % 4 = 0 := by simpa [HostAccess.isLegal] using legality
      rw [decode_read aligned]
      exact decodeRead_encode aligned
    | write addr size v =>
      obtain ⟨rfl, aligned⟩ : size = 4 ∧ addr.toNat % 4 = 0 := by simpa [HostAccess.isLegal] using legality
      rw [decode_write v aligned]
      exact decodeWrite_encode v aligned

/-- Every selector code is a waveform at the phase given (R113). -/
theorem decodeWave_wellFormed (sel : BitVec 2) (p : F32) : (decodeWave sel p).wellFormed = inPhaseRange p := by
  unfold decodeWave
  split_ifs <;> rfl

/-- Settles O2, by the port of the frame. -/
theorem decodedFramesAreWellFormedAndKeepTheirBits : Obligations.DecodedFramesAreWellFormedAndKeepTheirBits := by
  unfold Obligations.DecodedFramesAreWellFormedAndKeepTheirBits
  exact ⟨decodeEvent_encode, decodeAccess_encode, fun _ => ⟨rfl, rfl⟩,
    fun _ p inRange => (decodeWave_wellFormed _ p).trans inRange⟩

/-- Settles O3: the decoder evaluates each word. -/
theorem sampleWordsDecodeToTheirInstructions : Obligations.SampleWordsDecodeToTheirInstructions := by
  unfold Obligations.SampleWordsDecodeToTheirInstructions
  and_intros <;> rfl

/-! ## Event words -/

/-- The status nibble and, for status 9, the velocity decide the kind (R92). -/
theorem evtKind_of_status (w : U32) :
    (evtStatus w = 8 → evtKind w = .noteOff) ∧ (evtStatus w = 9 → evtVel w = 0 → evtKind w = .noteOff) ∧
    (evtStatus w = 9 → evtVel w ≠ 0 → evtKind w = .noteOn) ∧
    (evtStatus w ≠ 8 → evtStatus w ≠ 9 → evtKind w = .ignore) := by
  have not_8 : evtStatus w = 9 → evtStatus w ≠ 8 := fun h9 => by rw [h9]; decide
  refine ⟨fun h8 => if_pos h8, fun h9 h0 => ?_, fun h9 hvel => ?_, fun h8 h9 => ?_⟩
  · rw [evtKind, if_neg (not_8 h9), if_pos ⟨h9, h0⟩]
  · rw [evtKind, if_neg (not_8 h9), if_neg fun ⟨_, h0⟩ => hvel h0, if_pos h9]
  · rw [evtKind, if_neg h8, if_neg fun ⟨h, _⟩ => h9 h, if_neg h9]

/-- The decoder's row is one of the word's kind (R92). -/
theorem evtKind_iff_row (w : U32) :
    (evtKind w = .ignore ↔
      ∃ chan status pitch x15 vel x23 b3, decodeEvent w = .evtIgnore chan status pitch x15 vel x23 b3) ∧
    (evtKind w = .noteOn ↔ ∃ chan pitch x15 vel x23 b3, decodeEvent w = .noteOn chan pitch x15 vel x23 b3) ∧
    (evtKind w = .noteOff ↔ (∃ chan pitch x15 vel x23 b3, decodeEvent w = .noteOff chan pitch x15 vel x23 b3) ∨
      ∃ chan pitch x15 x23 b3, decodeEvent w = .noteOnVel0 chan pitch x15 x23 b3) := by
  obtain ⟨-, kind, row⟩ | ⟨-, -, kind, row⟩ | ⟨-, -, kind, row⟩ | ⟨-, -, kind, row⟩ := evtKind_cases w
  · simp [kind, row]
  · simp [kind, row]
  · simp [kind, row]
  · simp [kind, row]

/-- Settles O5: EVT_KIND returns `evtKind`, which the status nibble decides and the decoder's row agrees with. -/
theorem eventKindFollowsTheStatusNibble : Obligations.EventKindFollowsTheStatusNibble := by
  unfold Obligations.EventKindFollowsTheStatusNibble
  intro w s
  obtain ⟨off, velocityZero, on, other⟩ := evtKind_of_status w
  exact ⟨evtKind w, rfl, off, velocityZero, on, other, evtKind_iff_row w⟩

/-! ## The drain -/

/-- An event reaches the tracker through its kind and its pitch alone (R93). -/
theorem applyEvent_congr {w w' : U32} (kind : evtKind w = evtKind w') (pitch : evtPitch w = evtPitch w') (s : State) :
    applyEvent w s = applyEvent w' s := by
  rw [applyEvent, applyEvent, kind, pitch]

/-- The drain applies the queued words in order and empties the queue (R243). -/
theorem drain_eq_foldl (ws : List U32) (s : State) :
    drain { s with evq := ws } = { ws.foldl (fun t w => applyEvent w t) s with evq := [] } := by
  show drainWords ws { s with evq := ws } = _
  induction ws generalizing s with
  | nil => rfl
  | cons w rest ih =>
    calc drainWords rest (applyEvent w { s with evq := rest })
        = drainWords rest { applyEvent w s with evq := rest } := by rw [applyEvent_queue]
      _ = _ := ih (applyEvent w s)

theorem foldl_applyEvent_congr {ws ws' : List U32}
    (agree : List.Forall₂ (fun w w' => evtKind w = evtKind w' ∧ evtPitch w = evtPitch w') ws ws') (s : State) :
    ws.foldl (fun t w => applyEvent w t) s = ws'.foldl (fun t w => applyEvent w t) s := by
  induction agree generalizing s with
  | nil => rfl
  | cons head _ ih =>
    obtain ⟨kind, pitch⟩ := head
    rw [List.foldl_cons, List.foldl_cons, applyEvent_congr kind pitch, ih]

/-- Steps 1 and 2 of a tick: adoption does not look at the queue. -/
theorem drain_adopt_queue (ws : List U32) (s : State) : drain (adopt { s with evq := ws }) =
    { ws.foldl (fun t w => applyEvent w t) (adopt s) with evq := [] } := by
  rw [adopt_queue, drain_eq_foldl]

/-- Settles O7: the queue is read by the drain alone, which empties it after events that act alike, so the rest of the
tick starts from the same state. -/
theorem onlyKindAndPitchOfAnEventMatter : Obligations.OnlyKindAndPitchOfAnEventMatter := by
  unfold Obligations.OnlyKindAndPitchOfAnEventMatter
  intro now s ws ws' agree
  have control : tickControl now { s with evq := ws } = tickControl now { s with evq := ws' } := by
    rw [tickControl, tickControl, drain_adopt_queue, drain_adopt_queue, foldl_applyEvent_congr agree]
  show Host.Outcome.next (tickWith _ _ now _) = .next (tickWith _ _ now _)
  rw [tickWith, tickWith, control]

/-! ## The configuration image -/

theorem boolWord_getLsbD (b : Bool) : (boolWord b).getLsbD 0 = b := by cases b <;> rfl

theorem filtCtrlWord_getLsbD (c : FiltCfg) :
    (filtCtrlWord c).getLsbD 0 = c.en ∧ (filtCtrlWord c).getLsbD 1 = c.contourEn := by
  rw [filtCtrlWord]
  cases c.en <;> cases c.contourEn <;> exact ⟨rfl, rfl⟩

/-- The three words of an oscillator decode to it (R100, R105). -/
theorem decodeOsc_ctrlWord (c : OscCfg) : decodeOsc (oscCtrlWord c) c.fmult c.gain = c := by
  have value : (oscCtrlWord c).toNat = c.wave.toNat * 2 + c.en.toNat := by
    rw [oscCtrlWord, append_toNat, append_toNat, ofBool_toNat, BitVec.toNat_zero]
    ring
  have hwave := c.wave.isLt
  have hen := c.en.toNat_lt
  have wave : waveSelector (oscCtrlWord c) = c.wave := by
    apply BitVec.eq_of_toNat_eq
    rw [waveSelector, extract_toNat, value]
    omega
  have en : (oscCtrlWord c).getLsbD 0 = c.en := by
    rw [getLsbD_eq, value]
    cases c.en <;> simp
  rw [decodeOsc, wave, en]

theorem decodeCfg_encodeCfg (c : SynthConfig) : decodeCfg (encodeCfg c) = c := by
  have arp : (decodeCfg (encodeCfg c)).arp = c.arp := congrArg (ArpCfg.mk · _ _) (boolWord_getLsbD c.arp.en)
  have osc : (decodeCfg (encodeCfg c)).osc = c.osc := by
    ext1 i hi
    interval_cases i <;> exact decodeOsc_ctrlWord _
  have filt : (decodeCfg (encodeCfg c)).filt = c.filt := by
    obtain ⟨en, contourEn⟩ := filtCtrlWord_getLsbD c.filt
    exact congrArg₂ (FiltCfg.mk · · _ _ _) en contourEn
  calc decodeCfg (encodeCfg c)
    _ = ⟨(decodeCfg (encodeCfg c)).arp, (decodeCfg (encodeCfg c)).osc, c.env, c.boost,
          (decodeCfg (encodeCfg c)).filt⟩ := rfl
    _ = c := by rw [arp, osc, filt]

theorem getLsbD_toNat (w : U32) (i : Nat) : (w.getLsbD i).toNat = w.toNat / 2 ^ i % 2 := by
  rw [BitVec.getLsbD, Nat.toNat_testBit]

/-- A mask of the low bits takes the remainder. -/
theorem and_lowMask_toNat (w : U32) {mask : U32} (n : Nat) (h : mask.toNat = 2 ^ n - 1) :
    (w &&& mask).toNat = w.toNat % 2 ^ n := by
  rw [BitVec.toNat_and, h, Nat.and_two_pow_sub_one_eq_mod]

/-! The words with reserved bits, put together from the fields of a word, keep its defined bits (R103). -/

theorem boolWord_of_word (w : U32) : boolWord (w.getLsbD 0) = w &&& 0x00000001 := by
  apply BitVec.eq_of_toNat_eq
  rw [boolWord, append_toNat, ofBool_toNat, getLsbD_toNat, BitVec.toNat_zero, and_lowMask_toNat w 1 rfl]
  omega

theorem oscCtrlWord_decodeOsc (w fmult gain : U32) : oscCtrlWord (decodeOsc w fmult gain) = w &&& 0x00000007 := by
  apply BitVec.eq_of_toNat_eq
  rw [oscCtrlWord, append_toNat, append_toNat, ofBool_toNat, decodeOsc, waveSelector, extract_toNat, getLsbD_toNat,
    BitVec.toNat_zero, and_lowMask_toNat w 3 rfl]
  omega

theorem filtCtrlWord_of_word (w cutoff res contour : U32) :
    filtCtrlWord ⟨w.getLsbD 0, w.getLsbD 1, cutoff, res, contour⟩ = w &&& 0x00000003 := by
  apply BitVec.eq_of_toNat_eq
  rw [filtCtrlWord, append_toNat, append_toNat, ofBool_toNat, ofBool_toNat, getLsbD_toNat, getLsbD_toNat,
    BitVec.toNat_zero, and_lowMask_toNat w 2 rfl]
  omega

/-- Encoding what an image decodes to keeps the defined bits of each word (R103, R104). -/
theorem encodeCfg_decodeCfg (img : Vector U32 22) (k : Fin 22) :
    (encodeCfg (decodeCfg img))[k] = img[k] &&& cfgMask k := by
  have layout : k ∈ [0, 3, 6, 9, 18] ∨ k ∈ [1, 2, 4, 5, 7, 8, 10, 11, 12, 13, 14, 15, 16, 17, 19, 20, 21] := by
    revert k
    decide
  obtain reserved | whole := layout
  · fin_cases reserved
    · exact boolWord_of_word _
    · exact oscCtrlWord_decodeOsc ..
    · exact oscCtrlWord_decodeOsc ..
    · exact oscCtrlWord_decodeOsc ..
    · exact filtCtrlWord_of_word ..
  · fin_cases whole <;> exact BitVec.and_allOnes.symm

/-- Settles O49: each field is read back from its bits, and an image whose reserved bits are zero loses nothing. -/
theorem decodeCfgInvertsEncodeCfg : Obligations.DecodeCfgInvertsEncodeCfg := by
  unfold Obligations.DecodeCfgInvertsEncodeCfg
  refine ⟨decodeCfg_encodeCfg, fun img reservedZero => Vector.ext fun i hi => ?_⟩
  exact (encodeCfg_decodeCfg img ⟨i, hi⟩).trans (reservedZero ⟨i, hi⟩)

/-! ## Status words -/

/-- A field placed above a narrower value adds up to it. -/
theorem or_field_toNat {n k : Nat} {x : U32} (field : BitVec n) (fits : n + k ≤ 32) (hx : x.toNat < 2 ^ k) :
    (x ||| field.zeroExtend 32 <<< k).toNat = x.toNat + field.toNat * 2 ^ k := by
  have value : (field.zeroExtend 32).toNat = field.toNat := BitVec.toNat_setWidth_of_le (by omega)
  have bound : field.toNat * 2 ^ k < 2 ^ 32 :=
    calc field.toNat * 2 ^ k < 2 ^ n * 2 ^ k := Nat.mul_lt_mul_of_pos_right field.isLt (by positivity)
      _ = 2 ^ (n + k) := (pow_add 2 n k).symm
      _ ≤ 2 ^ 32 := Nat.pow_le_pow_right (by norm_num) fits
  rw [BitVec.toNat_or, BitVec.toNat_shiftLeft, value, Nat.shiftLeft_eq, Nat.mod_eq_of_lt bound, Nat.or_comm,
    Nat.mul_comm, ← Nat.two_pow_add_eq_or_of_lt hx, Nat.add_comm]

theorem mboxStatus_toNat (s : State) : (mboxStatus s).toNat = s.mboxPending.toNat := by
  rw [mboxStatus, append_toNat, ofBool_toNat, BitVec.toNat_zero]
  ring

theorem trkSlots0_toNat (s : State) : (trkSlots0 s).toNat =
    s.trkSlot[0].toNat + s.trkSlot[1].toNat * 2 ^ 8 + s.trkSlot[2].toNat * 2 ^ 16 + s.trkSlot[3].toNat * 2 ^ 24 := by
  rw [trkSlots0, append_toNat, append_toNat, append_toNat]
  ring

theorem trkSlots1_toNat (s : State) : (trkSlots1 s).toNat = s.trkSlot[4].toNat :=
  BitVec.toNat_setWidth_of_le (by norm_num)

theorem voiceStatus_toNat (s : State) : (voiceStatus s).toNat =
    s.voiceEn.toNat + s.voiceNote.toNat * 2 ^ 8 + (stageCode s.envStage).toNat * 2 ^ 16 + s.trkLen.val * 2 ^ 20
      + s.arpActive.toNat * 2 ^ 24 := by
  have len : (BitVec.ofNat 3 s.trkLen.val).toNat = s.trkLen.val := by
    rw [BitVec.toNat_ofNat, Nat.mod_eq_of_lt (by omega)]
  rw [voiceStatus, append_toNat, append_toNat, append_toNat, append_toNat, append_toNat, append_toNat, append_toNat,
    append_toNat, ofBool_toNat, ofBool_toNat, len, BitVec.toNat_zero, BitVec.toNat_zero]
  ring

theorem evtStatusReg_toNat {s : State} (h : queueOk s) : (evtStatusReg s).toNat =
    s.evq.length + (if s.evq.length = 32 then 2 ^ 8 else 0) + s.evqOvf.toNat * 2 ^ 16 := by
  have room : s.evq.length ≤ 32 := h
  have level : (BitVec.ofNat 32 s.evq.length).toNat = s.evq.length := by
    rw [BitVec.toNat_ofNat, Nat.mod_eq_of_lt (by omega)]
  have full : (evtFull s).toNat * 2 ^ 8 = if s.evq.length = 32 then 2 ^ 8 else 0 := by
    rw [evtFull, Config.evqDepth]
    split_ifs with h <;> simp [h]
  have hfull := (evtFull s).toNat_lt
  have low := or_field_toNat (x := BitVec.ofNat 32 s.evq.length) (BitVec.ofBool (evtFull s)) (k := 8) (by norm_num)
    (by omega)
  rw [ofBool_toNat] at low
  rw [evtStatusReg, or_field_toNat _ (by norm_num) (by omega), low, ofBool_toNat, level, full]

/-- Settles O45: a read answers its element or its status word, whose value is the sum of the fields at their places. -/
theorem statusReadsReturnTheirElementsAndFields : Obligations.StatusReadsReturnTheirElementsAndFields := by
  unfold Obligations.StatusReadsReturnTheirElementsAndFields
  refine ⟨fun s => ?_, fun s => ⟨⟨_, rfl, mboxStatus_toNat s⟩, fun h => ⟨_, rfl, evtStatusReg_toNat h⟩,
    ⟨_, rfl, ?_⟩, ⟨_, rfl, trkSlots0_toNat s⟩, ⟨_, rfl, trkSlots1_toNat s⟩⟩⟩
  · and_intros <;> rfl
  · rw [voiceStatus_toNat]
    cases s.envStage <;> rfl

theorem trkQuery_toNat (s : State) : (trkQuery s).toNat =
    s.trkQueryArg.toNat + (trkRightOf s.trkQueryArg s).toNat * 2 ^ 8 + (trkSmallest s).toNat * 2 ^ 16
      + (trkMostRecent s).toNat * 2 ^ 24 := by
  have argument : (s.trkQueryArg.zeroExtend 32).toNat = s.trkQueryArg.toNat :=
    BitVec.toNat_setWidth_of_le (by norm_num)
  have one := or_field_toNat (x := s.trkQueryArg.zeroExtend 32) (trkRightOf s.trkQueryArg s) (k := 8) (by norm_num)
    (by omega)
  have two := or_field_toNat (trkSmallest s) (k := 16) (by norm_num) (by rw [one]; omega)
  have three := or_field_toNat (trkMostRecent s) (k := 24) (by norm_num) (by rw [two, one]; omega)
  rw [trkQuery, three, two, one, argument]

/-- The bytes of TRK_QUERY (R112). -/
theorem trkQuery_bytes (s : State) :
    (trkQuery s).extractLsb' 0 8 = s.trkQueryArg ∧ (trkQuery s).extractLsb' 8 8 = trkRightOf s.trkQueryArg s ∧
    (trkQuery s).extractLsb' 16 8 = trkSmallest s ∧ (trkQuery s).extractLsb' 24 8 = trkMostRecent s := by
  have value := trkQuery_toNat s
  have h0 := s.trkQueryArg.isLt
  have h1 := (trkRightOf s.trkQueryArg s).isLt
  have h2 := (trkSmallest s).isLt
  have h3 := (trkMostRecent s).isLt
  refine ⟨?_, ?_, ?_, ?_⟩
  all_goals
    apply BitVec.eq_of_toNat_eq
    rw [extract_toNat, value]
    omega

/-- Settles O46: the bytes of the word read are what the three queries return. -/
theorem trackerQueryRegister : Obligations.TrackerQueryRegister := by
  unfold Obligations.TrackerQueryRegister
  intro v s
  obtain ⟨argument, rightOf, smallest, mostRecent⟩ := trkQuery_bytes s
  refine ⟨rfl, trkQuery s, rfl, argument, ?_⟩
  rw [rightOf, smallest, mostRecent]
  exact ⟨rfl, rfl, rfl⟩

end Sys2Proof.Machine

/-! PROOFS. The note tracker (40_note_tracker.md R131 to R137): push, pop and the queries against the list of held notes. -/

namespace Sys2Proof.Machine

/-! ## Push and pop -/

/-- Settles O8: the sentinel and a held note leave the tracker alone, any other note goes to the front. -/
theorem trackerPushPutsANewNoteFirst : Obligations.TrackerPushPutsANewNoteFirst := by
  unfold Obligations.TrackerPushPutsANewNoteFirst
  intro n s
  refine ⟨trkPush n s, rfl, trkPush_same, fun not_sentinel new => ⟨?_, ?_, trkPush_held not_sentinel new⟩,
    trkPush_trackerOk n, trkPush_frame n s⟩
  · rw [trkPush_new not_sentinel new]
  · rw [trkPush_new not_sentinel new, lenAfterPush]

/-- Slots before the index taken out stay, later ones move one forward (R135). -/
theorem removeSlot_getElem (j : Nat) (slots : Vector U8 5) (m : Fin 4) :
    (removeSlot j slots)[m] = if m.val < j then slots[m] else slots[m.val + 1] := by
  fin_cases m <;> rfl

theorem lenAfterPop_add_one {len : Fin 6} (h : 0 < len.val) : (lenAfterPop len).val + 1 = len.val :=
  Nat.sub_add_cancel h

theorem trkLen_pos_of_mem {n : U8} {s : State} (held : n ∈ heldNotes s) : 0 < s.trkLen.val := by
  rw [← heldNotes_length]
  exact List.length_pos_of_mem held

/-- Settles O9: a held note's first index is taken out of the slots, and with it the note out of the held ones. -/
theorem trackerPopRemovesTheNote : Obligations.TrackerPopRemovesTheNote := by
  unfold Obligations.TrackerPopRemovesTheNote
  intro n s
  refine ⟨trkPop n s, rfl, trkPop_same, fun not_sentinel held => ⟨trkPop_held not_sentinel, ?_⟩, trkPop_trackerOk n,
    trkPop_frame n s⟩
  rw [trkPop_held_eq not_sentinel held]
  exact ⟨lenAfterPop_add_one (trkLen_pos_of_mem held), rfl, removeSlot_getElem _ _⟩

/-! ## Queries -/

/-- TRK_MOST_RECENT reads slot 0, which is 255 on an empty tracker (R38, R132). -/
theorem trkMostRecent_eq_headD {s : State} (ok : trackerOk s) : trkMostRecent s = (heldNotes s).headD 255 := by
  rw [List.headD_eq_head?_getD, List.head?_eq_getElem?]
  exact slot_eq s ok 0 (by norm_num)

theorem trkAt_eq_getElem {i : Nat} {s : State} (h : i < (heldNotes s).length) : trkAt i s = (heldNotes s)[i] := by
  have held := trkAt_held (i := i) (s := s) (by rwa [← heldNotes_length])
  rw [List.getElem?_eq_getElem h] at held
  exact (Option.some.inj held).symm

/-- Settles O10: each query returns what its function computes from the slots, which the held notes determine. -/
theorem trackerQueriesReadTheHeldNotes : Obligations.TrackerQueriesReadTheHeldNotes := by
  unfold Obligations.TrackerQueriesReadTheHeldNotes
  intro s ok
  have ⟨_, noSentinel, _⟩ := ok
  refine ⟨?_, ⟨trkSmallest s, rfl, trkSmallest_empty s, trkSmallest_spec s noSentinel⟩, ?_, fun i below => ?_⟩
  · rw [← trkMostRecent_eq_headD ok]
    rfl
  · rw [heldNotes_length]
    rfl
  · rw [← trkAt_eq_getElem below]
    rfl

/-! ## The next note above -/

theorem trkRightOf_empty (x : U8) {s : State} (empty : heldNotes s = []) : trkRightOf x s = 255 := by
  rw [trkRightOf, if_pos ((heldNotes_eq_nil s).1 empty)]

theorem trkRightOf_one (x : U8) {n : U8} {s : State} (one : heldNotes s = [n]) : trkRightOf x s = n := by
  have len : s.trkLen = 1 := Fin.ext (by rw [← heldNotes_length, one]; rfl)
  have nonempty : s.trkLen ≠ 0 := by rw [len]; decide
  have head := trkMostRecent_held nonempty
  rw [one, List.head?_cons] at head
  rw [trkRightOf, if_neg nonempty, if_pos len]
  exact (Option.some.inj head).symm

/-- A note above `x` is held: TRK_RIGHT_OF returns what its loop found (R134). -/
theorem trkRightOf_above {x : U8} {s : State} (noSentinel : (255 : U8) ∉ heldNotes s) (many : 2 ≤ (heldNotes s).length)
    (above : ∃ n ∈ heldNotes s, x < n) : trkRightOf x s = trkNextAbove x s := by
  obtain ⟨held, -, -⟩ := trkNextAbove_spec x s noSentinel above
  obtain ⟨n, -, hn⟩ := above
  have not_last : x ≠ 255 := by
    rintro rfl
    bv_omega
  have found : trkNextAbove x s ≠ 255 := fun h => noSentinel (h ▸ held)
  rw [trkRightOf_many x s many, if_neg not_last, if_neg found]

/-- No note above `x` is held: TRK_RIGHT_OF wraps to the smallest (R134). -/
theorem trkRightOf_wrap {x : U8} {s : State} (many : 2 ≤ (heldNotes s).length) (none_above : ∀ n ∈ heldNotes s, n ≤ x) :
    trkRightOf x s = trkSmallest s := by
  rw [trkRightOf_many x s many, if_pos (trkNextAbove_none x s none_above), ite_self]

/-- Settles O11: by how many notes are held and, for two or more, whether one is above `x`. -/
theorem trackerRightOfIsTheNextHigherNote : Obligations.TrackerRightOfIsTheNextHigherNote := by
  unfold Obligations.TrackerRightOfIsTheNextHigherNote
  intro x s ⟨_, noSentinel, _⟩
  refine ⟨trkRightOf x s, rfl, trkRightOf_empty x, fun n => trkRightOf_one x, fun many above => ?_,
    fun many none_above => ?_⟩
  · rw [trkRightOf_above noSentinel many above]
    exact trkNextAbove_spec x s noSentinel above
  · rw [trkRightOf_wrap many none_above]
    exact trkSmallest_spec s noSentinel (List.ne_nil_of_length_pos (by omega))

end Sys2Proof.Machine

/-! PROOFS. The arpeggiator (41_arpeggiator.md): the period as a floored quotient; one ARP_STEP by the state of the
arpeggiator and its period; any number of polls before the period has run out. The obligations O12 to O15 put together from
that. -/

namespace Sys2Proof.Machine

/-! ## Meanings -/

theorem exec_arpStep (a : ArpCfg) (now : U32) (s : State) :
    exec (.arpStep a now) s = .next { (arpStep a now s).2 with result := .flag (arpStep a now s).1 } := rfl

theorem exec_arpIndex (s : State) : exec .arpIndex s = .next { s with result := .count (arpIndex s) } := rfl

/-! ## The period -/

/-- A positive product gives a period `p` whose `p` products reach 60000 at most and whose `p + 1` go beyond (R150). -/
theorem arpPeriod_floor {a : ArpCfg} (product : a.bpm.toNat * a.div.toNat ≠ 0) :
    ∃ p, arpPeriod a = .ms p ∧ p * (a.bpm.toNat * a.div.toNat) ≤ 60000 ∧
      60000 < (p + 1) * (a.bpm.toNat * a.div.toNat) := by
  have positive : 0 < a.bpm.toNat * a.div.toNat := Nat.pos_of_ne_zero product
  exact ⟨_, arpPeriod_ms product, Nat.div_mul_le_self .., (Nat.div_lt_iff_lt_mul positive).1 (Nat.lt_succ_self _)⟩

/-- Settles O12: by whether the product is zero. -/
theorem arpPeriodIsAFlooredQuotient : Obligations.ArpPeriodIsAFlooredQuotient := by
  unfold Obligations.ArpPeriodIsAFlooredQuotient
  intro a s
  exact ⟨arpPeriod a, rfl, arpPeriod_never, arpPeriod_floor⟩

/-! ## One step of an active arpeggiator -/

theorem arpStep_never {a : ArpCfg} {now : U32} {s : State} (active : s.arpActive = true) (never : arpPeriod a = .never) :
    arpStep a now s = (false, s) := arpStep_wait active (arpDue_never never)

theorem arpStep_early {a : ArpCfg} {now : U32} {s : State} {p : Nat} (active : s.arpActive = true)
    (period : arpPeriod a = .ms p) (early : (now - s.arpLastMs).toNat < p) : arpStep a now s = (false, s) :=
  arpStep_wait active ((arpDue_ms period).trans (decide_eq_false (Nat.not_le.2 early)))

theorem arpStep_elapsed {a : ArpCfg} {now : U32} {s : State} {p : Nat} (active : s.arpActive = true)
    (period : arpPeriod a = .ms p) (elapsed : p ≤ (now - s.arpLastMs).toNat) :
    arpStep a now s = (true, { s with arpCounter := s.arpCounter + 1, arpLastMs := now }) :=
  arpStep_due active ((arpDue_ms period).trans (decide_eq_true elapsed))

/-- Settles O13: ARP_STEP answers the two parts of `arpStep`, which each case determines. -/
theorem arpStepActivatesAdvancesOrWaits : Obligations.ArpStepActivatesAdvancesOrWaits := by
  unfold Obligations.ArpStepActivatesAdvancesOrWaits
  intro a now s
  rw [exec_arpStep]
  refine ⟨fun inactive => ?_, fun active zero => ?_, fun active product elapsed => ?_, fun active product early => ?_⟩
  · rw [arpStep_inactive inactive]
  · rw [arpStep_never active (arpPeriod_never zero)]
  · rw [arpStep_elapsed active (arpPeriod_ms product) elapsed]
  · rw [arpStep_early active (arpPeriod_ms product) early]

/-! ## Many polls -/

/-- Polls before the period has run out change nothing, so each of them meets the same last time (R151). -/
theorem arpPolls_early {a : ArpCfg} {p : Nat} {s : State} {polls : List U32} (active : s.arpActive = true)
    (period : arpPeriod a = .ms p) (early : ∀ t ∈ polls, (t - s.arpLastMs).toNat < p) :
    polls.foldl (fun u t => (arpStep a t u).2) s = s := by
  induction polls with
  | nil => rfl
  | cons t rest ih =>
    obtain ⟨first, later⟩ := List.forall_mem_cons.1 early
    rw [List.foldl_cons, arpStep_early active period first]
    exact ih later

/-- Settles O15: the early polls by induction on their list, then one step from the state they left alone. -/
theorem arpWaitsOutItsPeriodThenAdvancesOnce : Obligations.ArpWaitsOutItsPeriodThenAdvancesOnce := by
  unfold Obligations.ArpWaitsOutItsPeriodThenAdvancesOnce
  intro a p s polls now active period early elapsed
  have unmoved := arpPolls_early active period early
  refine ⟨unmoved, ?_⟩
  rw [unmoved, arpStep_elapsed active period elapsed]

/-! ## Clear and index -/

/-- Settles O14: ARP_INDEX by whether a note is held; where the spec leaves a value open, `arpIndex` and `trkAt` supply
one and the rest of the state is as it was. -/
theorem arpClearAndIndex : Obligations.ArpClearAndIndex := by
  unfold Obligations.ArpClearAndIndex
  refine ⟨fun s => ⟨rfl, fun held => ?_⟩, fun i s => ⟨fun _ => ⟨arpIndex s, exec_arpIndex s⟩, fun _ => ⟨trkAt i s, rfl⟩⟩⟩
  rw [exec_arpIndex, arpIndex_held held]

end Sys2Proof.Machine

/-! PROOFS. The oscillators (42_oscillator.md): the tables of frequencies and sines; the four waveforms and their range; one
OSC_STEP, enabled or disabled, with the phase it stores. The obligations O16 to O20 put together from that. -/

namespace Sys2Proof.Machine

/-! ## Meanings -/

theorem exec_dt (n : U8) (s : State) : exec (.dt n) s = .next { s with result := .sample (dtOf n) } := rfl

theorem exec_waveSelected (sel : BitVec 2) (p : F32) (s : State) :
    exec (.wave sel p) s = .next { s with result := .sample (waveAt sel p) } := rfl

theorem exec_waveSine (p : F32) (s : State) :
    exec (.waveSine p) s = .next { s with result := .sample (waveSine p) } := rfl

theorem exec_waveSaw (p : F32) (s : State) :
    exec (.waveSaw p) s = .next { s with result := .sample (waveSaw p) } := rfl

theorem exec_waveSquare (p : F32) (s : State) :
    exec (.waveSquare p) s = .next { s with result := .sample (waveSquare p) } := rfl

theorem exec_waveTriangle (p : F32) (s : State) :
    exec (.waveTriangle p) s = .next { s with result := .sample (waveTriangle p) } := rfl

theorem exec_oscStep (i : Fin 3) (dt : F32) (s : State) :
    exec (.oscStep i dt) s = .next { (oscStep i dt s).2 with result := .sample (oscStep i dt s).1 } := rfl

/-! ## Waveforms -/

/-- Settles O17: WAVE answers `waveAt`, whose range every selected shape meets, and `waveAt` at a code is that code's
row. -/
theorem waveformsAndTheirRange : Obligations.WaveformsAndTheirRange := by
  unfold Obligations.WaveformsAndTheirRange
  refine ⟨fun sel p s inRange => ?_, fun p s => ⟨exec_waveSaw p s, exec_waveSquare p s, exec_waveTriangle p s⟩⟩
  obtain ⟨lower, upper⟩ := waveAt_between sel inRange
  refine ⟨waveAt sel p, exec_waveSelected sel p s, lower, upper, ?_, ?_, ?_, ?_⟩
  · rintro rfl; rw [waveAt_sine, exec_waveSine]
  · rintro rfl; rw [waveAt_saw, exec_waveSaw]
  · rintro rfl; rw [waveAt_square, exec_waveSquare]
  · rintro rfl; rw [waveAt_triangle, exec_waveTriangle]

/-! ## The sine table (R177) -/

theorem sineTable_length : sineTable.length = 256 := by decide +kernel

/-- The second quarter is the first one read backwards. -/
theorem sineTable_mirrored {j : Nat} (h : j ≤ 64) : sineTable[64 + j]? = sineTable[64 - j]? := by
  have each : ∀ k : Fin 65, sineTable[64 + k.val]? = sineTable[64 - k.val]? := by decide +kernel
  exact each ⟨j, by omega⟩

/-- The second half is the first one with the sign bit flipped, except at entry 128, which is +0.0. -/
theorem sineTable_negated {j : Nat} (h1 : 1 ≤ j) (h : j ≤ 127) :
    sineTable[128 + j]? = sineTable[j]?.map (fun y => y ^^^ 0x80000000#32) := by
  have each : ∀ k : Fin 128, 1 ≤ k.val →
      sineTable[128 + k.val]? = sineTable[k.val]?.map (fun y => y ^^^ 0x80000000#32) := by decide +kernel
  exact each ⟨j, by omega⟩ h1

/-- Settles O18: the lookup by `waveSine_at`; the listed quarter word by word, the rest of the table by its two laws. -/
theorem sineReadsTheTruncatedTableEntry : Obligations.SineReadsTheTruncatedTableEntry := by
  unfold Obligations.SineReadsTheTruncatedTableEntry
  refine ⟨fun k y p s entry inRange lower upper => ?_, sineTable_length, ?_, fun _ => sineTable_mirrored,
    fun _ => sineTable_negated, rfl⟩
  · rw [exec_waveSine, waveSine_at entry inRange lower upper]
  · decide +kernel

/-! ## The phase of an oscillator -/

theorem oscPhase_set_self (v : Vector F32 3) (i : Fin 3) (p : F32) : (v.set i p)[i] = p :=
  Vector.getElem_set_self i.isLt

theorem oscPhase_set_other (v : Vector F32 3) {i j : Fin 3} (p : F32) (h : j ≠ i) : (v.set i p)[j] = v[j] :=
  Vector.getElem_set_ne i.isLt j.isLt (Fin.val_ne_of_ne h.symm)

/-- The wrapped phase of a finite value that is not negative differs from it by the whole part of the value (R178). -/
theorem wrapPhase_differs_by_whole {t : F32} (finite : fIsFinite t = true) (nonneg : 0 ≤ fScaled t) :
    fScaled t = fScaled (wrapPhase t) + fScaled t / 2 ^ 149 * 2 ^ 149 := by
  rw [wrapPhase_exact finite nonneg, Int.emod_add_ediv_mul]

/-- Settles O20: the phases and the output by the rules of `oscStep`; the wrapped phase is the remainder of the sum by
1.0. -/
theorem oscStepKeepsPhasesInRangeAndOutputBounded : Obligations.OscStepKeepsPhasesInRangeAndOutputBounded := by
  unfold Obligations.OscStepKeepsPhasesInRangeAndOutputBounded
  refine ⟨fun i dt s legalCfg phases lower upper => ?_, fun t finite =>
    ⟨wrapPhase_range finite, fun nonneg => ⟨_, wrapPhase_differs_by_whole finite nonneg⟩⟩⟩
  exact ⟨_, _, exec_oscStep i dt s, oscStep_phasesOk i legalCfg phases ⟨lower, upper⟩, rfl,
    oscStep_output i legalCfg phases ⟨lower, upper⟩⟩

/-! ## The frequencies (R170) -/

/-- An octave up doubles the frequency: the exponent field of the word grows by one. -/
theorem noteHz_octave : ∀ n : Fin 116,
    (noteHz (BitVec.ofNat 8 (n.val + 12))).toNat = (noteHz (BitVec.ofNat 8 n.val)).toNat + 2 ^ 23 := by
  decide +kernel

theorem dtOf_sentinel : dtOf 255 = fZero := if_pos rfl

theorem dtOf_note {n : U8} (h : n ≠ 255) : dtOf n = fDiv (noteHz n) srF := if_neg h

/-- Settles O16: DT by whether the note is the sentinel; the table by its octave law and the words of one octave. -/
theorem phaseIncrementIsTheNoteFrequencyOverTheSampleRate :
    Obligations.PhaseIncrementIsTheNoteFrequencyOverTheSampleRate := by
  unfold Obligations.PhaseIncrementIsTheNoteFrequencyOverTheSampleRate
  refine ⟨fun s => ?_, fun n s note => ?_, noteHz_octave, ?_⟩
  · rw [exec_dt, dtOf_sentinel, fZero]
  · rw [exec_dt, dtOf_note note, srF]
  · decide +kernel

/-! ## One step of an oscillator -/

theorem exec_oscStep_disabled {i : Fin 3} {dt : F32} {s : State} (disabled : (s.cfgActive.osc[i]).en = false) :
    exec (.oscStep i dt) s = .next { s with result := .sample fZero } := by
  rw [exec_oscStep, oscStep_off disabled]

theorem exec_oscStep_enabled {i : Fin 3} {dt : F32} {s : State} (enabled : (s.cfgActive.osc[i]).en = true) :
    exec (.oscStep i dt) s = .next { s with
      oscPhase := s.oscPhase.set i (nextPhase s.oscPhase[i] dt (s.cfgActive.osc[i]).fmult)
      result := .sample (fMul
        (waveAt (s.cfgActive.osc[i]).wave (nextPhase s.oscPhase[i] dt (s.cfgActive.osc[i]).fmult))
        (s.cfgActive.osc[i]).gain) } := by
  rw [exec_oscStep, oscStep_on enabled]

/-- Settles O19: by whether the oscillator is enabled; the phase read back is the one stored, and that is the wrapped
sum. -/
theorem oscStepStoresTheFractionOfTheAdvancedPhase : Obligations.OscStepStoresTheFractionOfTheAdvancedPhase := by
  unfold Obligations.OscStepStoresTheFractionOfTheAdvancedPhase
  intro i dt s
  refine ⟨exec_oscStep_disabled, ?_⟩
  rintro enabled u f rfl rfl
  refine ⟨_, exec_oscStep_enabled enabled, oscPhase_set_self .., wrapPhase_eq _, ?_,
    fun j other => oscPhase_set_other _ _ other, rfl⟩
  dsimp only
  rw [oscPhase_set_self]

end Sys2Proof.Machine

/-! PROOFS. The envelope generator (43_envelope.md): the rates and their bounds; the rule of each stage with its clamp; one
ENV_STEP, which keeps the value in range and in Attack lifts it. The obligations O21, O22, O24 and O25 put together from
that. -/

namespace Sys2Proof.Machine

/-! ## Meanings -/

theorem exec_envSetRates (e : EnvCfg) (s : State) : exec (.envSetRates e) s = .next (envSetRates e s) := rfl

theorem exec_setRatesStep (s : State) : exec .setRatesStep s = .next (envSetRates s.cfgActive.env s) := rfl

theorem exec_envStageAttack (s : State) : exec .envStageAttack s = .next (envStageAttack s) := rfl

theorem exec_envStageDecay (s : State) : exec .envStageDecay s = .next (envStageDecay s) := rfl

theorem exec_envStageRelease (s : State) : exec .envStageRelease s = .next (envStageRelease s) := rfl

theorem exec_envStep (s : State) :
    exec .envStep s = .next { envStep s with result := .sample (envStep s).envValue } := rfl

/-! ## Rates -/

/-- Settles O21: the fields by the definition of the rates, the bounds by `envRate_between`. -/
theorem envelopeRatesAndTheirBounds : Obligations.EnvelopeRatesAndTheirBounds := by
  unfold Obligations.EnvelopeRatesAndTheirBounds
  refine ⟨fun e s => ⟨exec_envSetRates e s, _, exec_setRatesStep s, exec_envSetRates _ s⟩, fun d lower upper => ?_⟩
  exact envRate_between ⟨lower, upper⟩

/-! ## Stage rules -/

section
variable {s : State}

theorem envStageAttack_clamps (top : fLe fOne (fAdd s.envValue s.envArate) = true) :
    envStageAttack s = { s with envValue := fOne, envStage := .decay } := if_pos top

theorem envStageAttack_rises (below : fLe fOne (fAdd s.envValue s.envArate) = false) :
    envStageAttack s = { s with envValue := fAdd s.envValue s.envArate } := if_neg (Bool.eq_false_iff.1 below)

theorem envStageDecay_clamps (bottom : fLe (fSub s.envValue s.envDrate) s.envSus = true) :
    envStageDecay s = { s with envValue := s.envSus, envStage := .sustain } := if_pos bottom

theorem envStageDecay_falls (above : fLe (fSub s.envValue s.envDrate) s.envSus = false) :
    envStageDecay s = { s with envValue := fSub s.envValue s.envDrate } := if_neg (Bool.eq_false_iff.1 above)

theorem envStageRelease_clamps (bottom : fLe (fSub s.envValue s.envRrate) fZero = true) :
    envStageRelease s = { s with envValue := fZero, envStage := .off } := if_pos bottom

theorem envStageRelease_falls (above : fLe (fSub s.envValue s.envRrate) fZero = false) :
    envStageRelease s = { s with envValue := fSub s.envValue s.envRrate } := if_neg (Bool.eq_false_iff.1 above)

end

/-- Settles O22: each stage by the outcome of its comparison; ENV_STEP by the current stage. -/
theorem envelopeStageRulesStepAndTriggers : Obligations.EnvelopeStageRulesStepAndTriggers := by
  unfold Obligations.EnvelopeStageRulesStepAndTriggers
  refine ⟨fun s => ⟨rfl, rfl, fun top => ?_, fun below => ?_, fun bottom => ?_, fun above => ?_, fun bottom => ?_,
    fun above => ?_⟩, fun s => ⟨rfl, rfl⟩, fun s => ⟨envStep s, exec_envStep s, ?_⟩⟩
  · rw [exec_envStageAttack, envStageAttack_clamps top, fOne]
  · rw [exec_envStageAttack, envStageAttack_rises below]
  · rw [exec_envStageDecay, envStageDecay_clamps bottom]
  · rw [exec_envStageDecay, envStageDecay_falls above]
  · rw [exec_envStageRelease, envStageRelease_clamps bottom, fZero]
  · rw [exec_envStageRelease, envStageRelease_falls above]
  · cases stage : s.envStage with
    | off => rw [envStep_at_off stage]; rfl
    | attack => rw [envStep_at_attack stage]; rfl
    | decay => rw [envStep_at_decay stage]; rfl
    | sustain => rw [envStep_at_sustain stage]; rfl
    | release => rw [envStep_at_release stage]; rfl

/-! ## One step -/

/-- Settles O24: `envStep_envOk`, since the returned value is no part of the invariant. -/
theorem envStepKeepsTheValueInRange : Obligations.EnvStepKeepsTheValueInRange := by
  unfold Obligations.EnvStepKeepsTheValueInRange
  intro s ok susLower susUpper rates
  have rates_in_range : ratesOk s :=
    ⟨⟨susLower, susUpper⟩, rates _ (by simp), rates _ (by simp), rates _ (by simp)⟩
  exact ⟨_, exec_envStep s, envStep_envOk ok rates_in_range⟩

/-- Values that are not NaNs are ordered one way or the other (R12). -/
theorem fLt_of_not_fLe {x y : F32} (hx : fIsNaN x = false) (hy : fIsNaN y = false) (h : fLe y x = false) :
    fLt x y = true := by
  refine (fLt_iff x y).2 ⟨hx, hy, not_le.1 fun le => ?_⟩
  exact Bool.false_ne_true (h.symm.trans ((fLe_iff y x).2 ⟨hy, hx, le⟩))

/-- Settles O25: the exact sum reaches the next value above the old one, so its rounding does (`attack_rises`); the
comparison with 1.0 decides the stage. -/
theorem attackRisesStrictlyUntilDecay : Obligations.AttackRisesStrictlyUntilDecay := by
  unfold Obligations.AttackRisesStrictlyUntilDecay
  intro s stage lower upper rateLower rateUpper
  refine ⟨_, exec_envStep s, ?_⟩
  rw [envStep_at_attack stage]
  cases reached : fLe fOne (fAdd s.envValue s.envArate) with
  | true =>
    rw [envStageAttack_clamps reached]
    exact ⟨upper, .inr ⟨rfl, rfl⟩⟩
  | false =>
    rw [envStageAttack_rises reached]
    obtain ⟨rises, sum_not_nan⟩ := attack_rises lower upper rateLower rateUpper
    obtain ⟨value_not_nan, one_not_nan, -⟩ := (fLt_iff _ _).1 upper
    exact ⟨(fLt_iff _ _).2 ⟨value_not_nan, sum_not_nan, rises⟩,
      .inl ⟨stage, fLt_of_not_fLe sum_not_nan one_not_nan reached⟩⟩

end Sys2Proof.Machine

/-! PROOFS. The low-pass filter (44_filter.md): the target and the resonance in their ranges; the smoothed cutoff between
the old one and the target; one FILT_SAMPLE. The obligations O26 to O28 put together from that. -/

namespace Sys2Proof.Machine

/-! ## Meanings -/

theorem exec_filtTarget (c : FiltCfg) (e : F32) (s : State) :
    exec (.filtTarget c e) s = .next { s with result := .sample (filtTarget c e) } := rfl

theorem exec_filtK (c : FiltCfg) (s : State) : exec (.filtK c) s = .next { s with result := .sample (filtK c) } := rfl

theorem exec_filtSmooth (t : F32) (s : State) :
    exec (.filtSmooth t) s = .next { s with filtFc := smoothed s.filtFc t } := rfl

theorem exec_filtSample (x e : F32) (s : State) :
    exec (.filtSample x e) s = .next { (filtSampleWith Config.numTan x e s).2 with
      result := .sample (filtSampleWith Config.numTan x e s).1 } := rfl

/-! ## Target and resonance -/

/-- The resonance factor lies in [0, 1] (R213). -/
theorem filtK_between {c : FiltCfg} (legal : legalFilt c = true) : between fZero (filtK c) fOne := by
  simp only [legalFilt, Bool.and_eq_true] at legal
  obtain ⟨⟨-, res_finite⟩, -⟩ := legal
  exact fClamp_spec (not_nan_of_finite res_finite) (by decide) (by decide) (by rw [scaled_zero, scaled_one]; norm_num)

/-- Settles O26: the expressions by the definitions, the ranges by `filtTarget_between` and `filtK_between`. -/
theorem filterTargetAndResonanceAreClamped : Obligations.FilterTargetAndResonanceAreClamped := by
  unfold Obligations.FilterTargetAndResonanceAreClamped
  refine ⟨fun c e s => ⟨exec_filtTarget c e s, exec_filtK c s⟩, fun c e s legal lower upper => ⟨?_, ?_⟩⟩
  · exact ⟨_, exec_filtTarget c e s, filtTarget_between legal ⟨lower, upper⟩⟩
  · exact ⟨_, exec_filtK c s, filtK_between legal⟩

/-! ## Smoothing -/

/-- Settles O27: the rounded step is no longer than the distance and of its sign (`smooth_step`), so the rounded sum stays
between the old cutoff and the target (`smoothed_between`). -/
theorem filterCutoffMovesTowardItsTarget : Obligations.FilterCutoffMovesTowardItsTarget := by
  unfold Obligations.FilterCutoffMovesTowardItsTarget
  intro t s
  refine ⟨exec_filtSmooth t s, fun cutoff_in_range lower upper => ⟨_, exec_filtSmooth t s, ?_⟩⟩
  exact smoothed_between cutoff_in_range ⟨lower, upper⟩

/-! ## One sample -/

/-- The sample and the integrator by the smoothed cutoff, the resonance and the gain of the tangent (R214). -/
theorem filtSampleWith_eq (tan : F32 → F32) (x e : F32) (s : State) {fc y : F32}
    (hfc : fc = smoothed s.filtFc (filtTarget s.cfgActive.filt e))
    (hy : y = filtOutput (integratorGain (tan (fDiv (fMul piF fc) srF))) (filtK s.cfgActive.filt) x s.filtS) :
    filtSampleWith tan x e s = (y, { s with filtFc := fc, filtS := fAdd y (fSub y s.filtS) }) := by
  subst hfc hy
  rfl

/-- Settles O28: the named values are those of `filtSampleWith_eq`. -/
theorem filterSampleFollowsTheEquation : Obligations.FilterSampleFollowsTheEquation := by
  unfold Obligations.FilterSampleFollowsTheEquation
  intro x e s fc k g gain y hfc hk hg hgain hy
  subst hk hg hgain
  rw [exec_filtSample, filtSampleWith_eq Config.numTan x e s hfc hy]

end Sys2Proof.Machine

/-! PROOFS. Saturation and boost (45_saturation.md): SAT_HARD as the quotient of its clamped argument, and what bounds its
magnitude; SAT_SOFT; BOOST_CHAIN as two runs of SAT_HARD. The obligations O29 and O30 put together from that. -/

namespace Sys2Proof.Machine

/-! ## Meanings -/

theorem exec_satHard (x : F32) (s : State) :
    exec (.satHard x) s = .next { s with result := .sample (satHard x) } := rfl

theorem exec_satSoft (x : F32) (s : State) :
    exec (.satSoft x) s = .next { s with result := .sample (satSoft x) } := rfl

theorem exec_boostChain (x : F32) (s : State) :
    exec (.boostChain x) s = .next { s with
      result := .sample (satHard (fMul (satHard (fMul x s.cfgActive.boost.pre)) s.cfgActive.boost.post)) } := rfl

/-! ## SAT_HARD -/

theorem fNeg_satLim : fNeg satLim = 0xC0400000#32 := by decide

/-- The clamped argument with both limits as words. -/
theorem satArg_eq (x : F32) : satArg x = fClamp x 0xC0400000#32 0x40400000#32 := by
  rw [satArg, fNeg_satLim, satLim]

/-- A value between a bound's negation and the bound has a magnitude of at most the bound. -/
theorem fLe_abs_of_between {m y : F32} (h : between (fNeg m) y m) : fLe (fAbs y) m = true := by
  obtain ⟨lower, upper⟩ := between_scaled h
  obtain ⟨y_not_nan, m_not_nan, -⟩ := (fLe_iff y m).1 h.2
  rw [fScaled_neg] at lower
  refine (fLe_iff _ _).2 ⟨(fIsNaN_abs y).trans y_not_nan, m_not_nan, ?_⟩
  rw [fScaled_abs]
  exact abs_le.2 ⟨lower, upper⟩

/-- Settles O29: the formula by `satHard_eq`; oddness, sign, the flat part and the bound by the laws of SAT_HARD. -/
theorem hardSaturatorIsItsQuotientOddFiniteAndFlat : Obligations.HardSaturatorIsItsQuotientOddFiniteAndFlat := by
  unfold Obligations.HardSaturatorIsItsQuotientOddFiniteAndFlat
  refine ⟨fun x c s clamped => ?_, fun x s not_nan => ?_, fun x s not_nan => ?_⟩
  · subst clamped
    rw [exec_satHard, satHard_eq, satArg_eq, satTop, satDen, fTwentySeven, fNine]
  · refine ⟨satHard x, exec_satHard x s, ?_, satHard_flat not_nan⟩
    rw [exec_satHard, satHard_neg not_nan]
  · exact ⟨satHard x, exec_satHard x s, satHard_finite not_nan, satHard_sign not_nan,
      fLe_abs_of_between (satHard_between not_nan)⟩

/-! ## SAT_SOFT and BOOST_CHAIN -/

/-- Settles O30: SAT_SOFT by its definition and `satSoft_spec`; the two values of BOOST_CHAIN are those its two runs of
SAT_HARD return. -/
theorem softSaturatorAndBoostChain : Obligations.SoftSaturatorAndBoostChain := by
  unfold Obligations.SoftSaturatorAndBoostChain
  refine ⟨fun x s => ⟨?_, fun finite => ?_⟩, fun x s => ?_⟩
  · rw [exec_satSoft, satSoft, fOne]
  · obtain ⟨sign, bounded, odd⟩ := satSoft_spec finite
    refine ⟨satSoft x, exec_satSoft x s, bounded, sign, ?_⟩
    rw [exec_satSoft, odd]
  · exact ⟨_, _, exec_satHard _ s, exec_satHard _ s, exec_boostChain x s⟩

end Sys2Proof.Machine

/-! PROOFS. The voice orchestrator and the ports (46_voice_and_ports.md R241 to R258): each step of a tick by its meaning,
a tick as the sequence of its steps, the block of samples it emits, and the registers the host reads and writes. The
obligations O6, O32 to O43, O47 and O48 put together from that. -/

namespace Sys2Proof.Machine

/-! ## Meanings -/

theorem exec_trkPush (n : U8) (s : State) : exec (.trkPush n) s = .next (trkPush n s) := rfl

theorem exec_trkPop (n : U8) (s : State) : exec (.trkPop n) s = .next (trkPop n s) := rfl

theorem exec_adopt (s : State) : exec .adopt s = .next (adopt s) := rfl

theorem exec_drain (s : State) : exec .drain s = .next (drain s) := rfl

theorem exec_emptyVoice (s : State) : exec .emptyVoice s = .next (emptyVoice s) := rfl

theorem exec_selectNote (now : U32) (s : State) : exec (.selectNote now) s =
    .next { (selectNote now s).2 with result := .note (selectNote now s).1 } := rfl

theorem exec_retrigger (n : U8) (s : State) : exec (.retrigger n) s = .next (retrigger n s) := rfl

theorem exec_sample (dt : F32) (s : State) : exec (.sample dt) s = .next (sampleWith Config.numTan dt s) := rfl

theorem exec_emit (x : F32) (s : State) : exec (.emit x) s = .next { s with out := s.out ++ [x] } := rfl

theorem exec_tick (now : U32) (s : State) :
    exec (.tick now) s = .next (tickWith Config.blockSize Config.numTan now s) := rfl

theorem exec_wrCfgCommit (v : U32) (s : State) : exec (.wrCfgCommit v) s = .next (hostWrote (commit s)) := rfl

theorem exec_wrEvtPush (v : U32) (s : State) :
    exec (.wrEvtPush v) s = .next (hostWrote (evtPush v s)) := rfl

theorem exec_wrEvtStatus (v : U32) (s : State) :
    exec (.wrEvtStatus v) s = .next (hostWrote (evtStatusWrite v s)) := rfl

/-- Running an instruction that always answers a next state over a list is a fold of its effect. -/
theorem foldl_next {α : Type} {run : StepOutcome → α → StepOutcome} {effect : State → α → State}
    (answers : ∀ u a, run (.next u) a = .next (effect u a)) (l : List α) (s : State) :
    l.foldl run (.next s) = .next (l.foldl effect s) := by
  induction l generalizing s with
  | nil => rfl
  | cons a rest ih => rw [List.foldl_cons, answers, ih, List.foldl_cons]

/-! ## Events -/

theorem pitchNote_eq_append (pitch : BitVec 7) : pitchNote pitch = 0#1 ++ pitch := by
  apply BitVec.eq_of_toNat_eq
  rw [pitchNote, append_toNat, BitVec.toNat_setWidth_of_le (by norm_num), BitVec.toNat_zero, Nat.zero_mul, Nat.zero_add]

/-- Settles O6: the row's meaning is that of the tracker operation at the extended pitch. -/
theorem eventRowsPushPopOrDoNothing : Obligations.EventRowsPushPopOrDoNothing := by
  unfold Obligations.EventRowsPushPopOrDoNothing
  intro chan status pitch vel x15 x23 b3 s
  rw [← pitchNote_eq_append]
  exact ⟨⟨_, rfl, exec_trkPush _ s⟩, ⟨_, rfl, exec_trkPop _ s⟩, ⟨_, rfl, exec_trkPop _ s⟩, rfl⟩

/-- Applying events neither looks at the queue nor changes it. -/
theorem foldl_applyEvent_queue (ws q : List U32) (s : State) :
    ws.foldl (fun t w => applyEvent w t) { s with evq := q } =
      { ws.foldl (fun t w => applyEvent w t) s with evq := q } := by
  induction ws generalizing s with
  | nil => rfl
  | cons w rest ih => rw [List.foldl_cons, applyEvent_queue, ih, List.foldl_cons]

/-- Settles O33: an event runs TRK_PUSH, TRK_POP or nothing by its kind, and the drain folds the events in order. -/
theorem drainAppliesTheQueueInOrder : Obligations.DrainAppliesTheQueueInOrder := by
  unfold Obligations.DrainAppliesTheQueueInOrder
  intro s
  have emptied : (drain s).evq = [] := by rw [drain_frame]
  refine ⟨drain s, exec_drain s, emptied, ?_, drain_frame s⟩
  rw [foldl_next (effect := fun t w => applyEvent w t)]
  · rw [foldl_applyEvent_queue, ← drain_eq_foldl]
  · intro u w
    rw [applyEvent, evtPitch, pitchNote_eq_append]
    cases evtKind w with
    | noteOn => exact exec_trkPush _ u
    | noteOff => exact exec_trkPop _ u
    | ignore => rfl

/-! ## Adoption -/

theorem finiteIn_iff (lo hi x : F32) :
    finiteIn lo hi x = true ↔ fIsFinite x = true ∧ fLe lo x = true ∧ fLe x hi = true := by
  rw [finiteIn, Bool.and_eq_true, Bool.and_eq_true, and_assoc]

theorem legalOsc_iff (c : OscCfg) :
    legalOsc c = true ↔ finiteIn fNeg256 f256 c.fmult = true ∧ finiteIn fNegEight fEight c.gain = true := by
  rw [legalOsc, Bool.and_eq_true]

theorem forall_mem_three {α : Type} {P : α → Prop} (a b c : α) : (∀ x ∈ [a, b, c], P x) ↔ P a ∧ P b ∧ P c := by
  rw [List.forall_mem_cons, List.forall_mem_cons, List.forall_mem_singleton]

theorem legalEnv_iff (c : EnvCfg) : legalEnv c = true ↔
    (∀ d ∈ [c.attack, c.decay, c.release], finiteIn fZero fSixty d = true) ∧ finiteIn fZero fOne c.sustain = true := by
  simp only [legalEnv, Bool.and_eq_true, forall_mem_three]
  exact ⟨fun ⟨⟨⟨attack, decay⟩, sustain⟩, release⟩ => ⟨⟨attack, decay, release⟩, sustain⟩,
    fun ⟨⟨attack, decay, release⟩, sustain⟩ => ⟨⟨⟨attack, decay⟩, sustain⟩, release⟩⟩

theorem legalBoost_iff (c : BoostCfg) :
    legalBoost c = true ↔ finiteIn fZero fSixtyFour c.pre = true ∧ finiteIn fZero fEight c.post = true := by
  rw [legalBoost, Bool.and_eq_true]

theorem legalFilt_iff (c : FiltCfg) : legalFilt c = true ↔ ∀ x ∈ [c.cutoff, c.res, c.contour], fIsFinite x = true := by
  simp only [legalFilt, Bool.and_eq_true, forall_mem_three, and_assoc]

/-- A configuration is legal exactly when each of its parts is (R33). -/
theorem legal_iff (c : SynthConfig) : legal c = true ↔ (∀ i : Fin 3, legalOsc (c.osc[i]) = true) ∧
    legalEnv c.env = true ∧ legalBoost c.boost = true ∧ legalFilt c.filt = true := by
  have each : (∀ i : Fin 3, legalOsc (c.osc[i]) = true) ↔
      legalOsc c.osc[0] = true ∧ legalOsc c.osc[1] = true ∧ legalOsc c.osc[2] = true :=
    ⟨fun h => ⟨h 0, h 1, h 2⟩, fun ⟨h0, h1, h2⟩ i => by fin_cases i <;> assumption⟩
  rw [each]
  simp only [legal, Bool.and_eq_true, and_assoc]

/-- Settles O32: ADOPT by its three cases, `legal` part by part. -/
theorem adoptConsumesAndTakesOnlyLegalConfigurations : Obligations.AdoptConsumesAndTakesOnlyLegalConfigurations := by
  unfold Obligations.AdoptConsumesAndTakesOnlyLegalConfigurations
  refine ⟨fun s => ⟨fun idle => ?_, fun pending good => ?_, fun pending bad => ?_⟩, fun c => ?_⟩
  · rw [exec_adopt, adopt_none idle]
  · rw [exec_adopt, adopt_legal pending good]
  · rw [exec_adopt, adopt_illegal pending bad]
  · simp only [legal_iff, legalOsc_iff, legalEnv_iff, legalBoost_iff, legalFilt_iff, finiteIn_iff, and_assoc, fNeg256,
      f256, fNegEight, fEight, fZero, fSixty, fOne, fSixtyFour]

/-! ## Note selection -/

/-- Settles O34: by whether the voice is enabled. -/
theorem emptyVoiceReleasesOnceAndClearsTheArpeggiator : Obligations.EmptyVoiceReleasesOnceAndClearsTheArpeggiator := by
  unfold Obligations.EmptyVoiceReleasesOnceAndClearsTheArpeggiator
  intro s
  refine ⟨fun enabled => ?_, fun disabled => ?_⟩
  · rw [exec_emptyVoice, emptyVoice_on enabled]
  · rw [exec_emptyVoice, emptyVoice_off disabled]

/-- With the arpeggiator enabled SELECT_NOTE leaves the state of ARP_STEP (R246). -/
theorem selectNote_arp_state {now : U32} {s : State} (enabled : s.cfgActive.arp.en = true) :
    (selectNote now s).2 = (arpStep s.cfgActive.arp now s).2 := by rw [selectNote_arp enabled]

/-- Settles O35: the note is held; without arpeggiator it is the first, with it the one at the index. -/
theorem selectedNoteIsAHeldNote : Obligations.SelectedNoteIsAHeldNote := by
  unfold Obligations.SelectedNoteIsAHeldNote
  intro now s nonempty
  refine ⟨_, _, exec_selectNote now s, rfl, selectNote_mem nonempty, fun disabled => ?_, fun enabled => ⟨?_, ?_⟩⟩
  · rw [selectNote_plain disabled]
    exact ⟨rfl, trkMostRecent_held nonempty⟩
  · rw [selectNote_arp_state enabled]
    exact ⟨_, exec_arpStep _ now s⟩
  · rw [heldNotes_length]
    exact selectNote_arp_held enabled nonempty

/-- Settles O36: by whether the note is new or the voice disabled. -/
theorem retriggerRestartsAttackOnANewNote : Obligations.RetriggerRestartsAttackOnANewNote := by
  unfold Obligations.RetriggerRestartsAttackOnANewNote
  intro n s
  refine ⟨fun new => ?_, fun same enabled => ?_⟩
  · rw [exec_retrigger, retrigger_new new]
  · rw [exec_retrigger, retrigger_same same enabled]

/-! ## One sample -/

section
variable (r : Result) (s : State)

/-! The steps of the pipeline do not look at the value returned by the step before. -/

theorem exec_oscStep_ignores_result (i : Fin 3) (dt : F32) :
    exec (.oscStep i dt) { s with result := r } = exec (.oscStep i dt) s := by
  rw [exec_oscStep, exec_oscStep, oscStep_result]

theorem exec_envStep_ignores_result : exec .envStep { s with result := r } = exec .envStep s := by
  rw [exec_envStep, exec_envStep, envStep_result]

theorem exec_boostChain_ignores_result (x : F32) :
    exec (.boostChain x) { s with result := r } = exec (.boostChain x) s := rfl

theorem exec_filtSample_ignores_result (x e : F32) :
    exec (.filtSample x e) { s with result := r } = exec (.filtSample x e) s := rfl

end

/-- A disabled filter passes the sample and leaves the state alone (R215). -/
theorem filterStage_bypassed {tan : F32 → F32} {x e : F32} {s : State} (bypassed : s.cfgActive.filt.en = false) :
    filterStage tan x e s = (x, s) := if_neg (Bool.eq_false_iff.1 bypassed)

theorem filterStage_enabled {tan : F32 → F32} {x e : F32} {s : State} (enabled : s.cfgActive.filt.en = true) :
    filterStage tan x e s = filtSampleWith tan x e s := if_pos enabled

/-- The state in front of the boost chain: the oscillators and the envelope stepped. -/
def voiced (dt : F32) (s : State) : State := envStep (mixOscillators dt s).2

/-- The sample in front of the filter: the enveloped mix, boosted. -/
def boosted (dt : F32) (s : State) : F32 :=
  boostChain (voiced dt s).cfgActive.boost (fMul (mixOscillators dt s).1 (voiced dt s).envValue)

/-- The sample and the state behind the filter. -/
def filtered (tan : F32 → F32) (dt : F32) (s : State) : F32 × State :=
  filterStage tan (boosted dt s) (voiced dt s).envValue (voiced dt s)

theorem sampleWith_eq (tan : F32 → F32) (dt : F32) (s : State) : sampleWith tan dt s =
    { (filtered tan dt s).2 with
      out := (filtered tan dt s).2.out ++ [fClamp (filtered tan dt s).1 fNegOne fOne] } := rfl

theorem voiced_cfgActive (dt : F32) (s : State) : (voiced dt s).cfgActive = s.cfgActive := by
  rw [voiced, envStep_frame, mixOscillators_frame]

theorem filtered_result (tan : F32 → F32) (dt : F32) (s : State) : (filtered tan dt s).2.result = s.result := by
  rw [filtered, filterStage_frame, voiced, envStep_frame, mixOscillators_frame]

theorem filtered_out (tan : F32 → F32) (dt : F32) (s : State) : (filtered tan dt s).2.out = s.out := by
  rw [filtered, filterStage_frame, voiced, envStep_frame, mixOscillators_frame]

/-- Settles O37: each step answers its part of `sampleWith`, whatever the value the step before returned. -/
theorem sampleRunsThePipelineOnce : Obligations.SampleRunsThePipelineOnce := by
  unfold Obligations.SampleRunsThePipelineOnce
  refine ⟨fun dt s => ?_, exec_emit⟩
  refine ⟨_, _, _, _, { voiced dt s with result := .sample (boosted dt s) },
    { (filtered Config.numTan dt s).2 with result := .sample (filtered Config.numTan dt s).1 }, _, _, _, _, _, _,
    exec_oscStep 0 dt s, rfl,
    (exec_oscStep_ignores_result ..).trans (exec_oscStep 1 dt _), rfl,
    (exec_oscStep_ignores_result ..).trans (exec_oscStep 2 dt _), rfl,
    (exec_envStep_ignores_result ..).trans (exec_envStep _), rfl,
    (exec_boostChain_ignores_result ..).trans (exec_boostChain _ _), rfl,
    fun enabled => ?_, fun bypassed => ?_, rfl, _, exec_emit _ _, ?_, ?_⟩
  · rw [exec_filtSample_ignores_result, exec_filtSample, filtered, filterStage_enabled]
    · rfl
    · rwa [voiced_cfgActive]
  · rw [filtered, filterStage_bypassed]
    rwa [voiced_cfgActive]
  · rw [← filtered_result Config.numTan dt s, exec_sample, sampleWith_eq]
    rfl
  · dsimp only
    rw [filtered_out]

/-! ## A block of samples -/

/-- The samples of a block, first emitted first. -/
def emittedBlock (tan : F32 → F32) (dt : F32) : Nat → State → List F32
  | 0, _ => []
  | n + 1, s => emittedSample tan dt s :: emittedBlock tan dt n (sampleWith tan dt s)

theorem emittedBlock_length (tan : F32 → F32) (dt : F32) (n : Nat) (s : State) :
    (emittedBlock tan dt n s).length = n := by
  induction n generalizing s with
  | zero => rfl
  | succ n ih => rw [emittedBlock, List.length_cons, ih]

theorem samplesWith_out (tan : F32 → F32) (dt : F32) (n : Nat) (s : State) :
    (samplesWith tan dt n s).out = s.out ++ emittedBlock tan dt n s := by
  induction n generalizing s with
  | zero => exact (List.append_nil _).symm
  | succ n ih =>
    have first : (sampleWith tan dt s).out = s.out ++ [emittedSample tan dt s] := by rw [sampleWith_frame]
    rw [samplesWith, ih, first, emittedBlock, List.append_assoc, List.singleton_append]

/-- What holds of the sample emitted from every state of an invariant holds of the whole block. -/
theorem forall_mem_emittedBlock {tan : F32 → F32} {dt : F32} {inv : State → Prop} {good : F32 → Prop}
    (keeps : ∀ s, inv s → inv (sampleWith tan dt s)) (emits : ∀ s, inv s → good (emittedSample tan dt s)) (n : Nat)
    {s : State} (start : inv s) : ∀ x ∈ emittedBlock tan dt n s, good x := by
  induction n generalizing s with
  | zero => exact List.forall_mem_nil _
  | succ n ih => exact List.forall_mem_cons.2 ⟨emits s start, ih (keeps s start)⟩

/-- The block of a tick. -/
def tickBlock (n : Nat) (tan : F32 → F32) (now : U32) (s : State) : List F32 :=
  emittedBlock tan (dtOf (tickControl now s).voiceNote) n (tickControl now s)

theorem tickWith_out (n : Nat) (tan : F32 → F32) (now : U32) (s : State) :
    (tickWith n tan now s).out = s.out ++ tickBlock n tan now s := by
  have start : (tickControl now s).out = s.out := by rw [tickControl_frame]
  rw [tickWith, samplesWith_out, start, tickBlock]

/-- Without an enabled filter, active or pending, a tick runs its block with the filter bypassed. -/
theorem tickControl_bypassed (now : U32) {s : State} (active : s.cfgActive.filt.en = false)
    (pending : s.mboxPending = true → s.mboxSlot.filt.en = false) : (tickControl now s).cfgActive.filt.en = false := by
  rw [tickControl_cfg]
  cases waiting : s.mboxPending with
  | false => rwa [adopt_none waiting]
  | true =>
    cases legality : legal s.mboxSlot with
    | false => rwa [adopt_illegal waiting legality]
    | true =>
      rw [adopt_legal waiting legality]
      exact pending waiting

/-- With the filter bypassed and the invariants met, each sample finds the next one's conditions kept (R263). -/
theorem tickBlock_between (n : Nat) (tan : F32 → F32) (now : U32) {s : State} (control : controlOk s)
    (phases : phasesOk s) (env : envOk s) (active : s.cfgActive.filt.en = false)
    (pending : s.mboxPending = true → s.mboxSlot.filt.en = false) :
    ∀ x ∈ tickBlock n tan now s, between fNegOne x fOne := by
  obtain ⟨-, pitches, -, -, config, voice⟩ := control
  have increment := tickControl_dt now pitches voice
  refine forall_mem_emittedBlock (inv := fun u => sampleOk u ∧ u.cfgActive.filt.en = false) ?_ ?_ n
    ⟨tickControl_sampleOk now config phases env, tickControl_bypassed now active pending⟩
  · rintro u ⟨ok, bypassed⟩
    refine ⟨sampleWith_sampleOk increment ok, ?_⟩
    rwa [sampleWith_frame]
  · rintro u ⟨⟨legalConfig, inPhase, inEnv, rates⟩, bypassed⟩
    exact emittedSample_between legalConfig inPhase inEnv rates increment bypassed

/-- Settles O41: every emitted sample has passed the clamp, and the invariants keep it from being a NaN. -/
theorem tickSamplesAreClampedToTheUnitRange : Obligations.TickSamplesAreClampedToTheUnitRange := by
  unfold Obligations.TickSamplesAreClampedToTheUnitRange
  intro now s
  refine ⟨_, _, exec_tick now s, tickWith_out _ _ now s, emittedBlock_length .., ?_, tickBlock_between _ _ now⟩
  exact forall_mem_emittedBlock (inv := fun _ => True) (fun _ _ => trivial)
    (fun u _ => emittedSample_unit_or_nan _ _ u) _ trivial

/-! ## A tick -/

/-- Settles O38: the block by `tickWith_out`, the rest by the frames of the samples and of steps 1 to 6. -/
theorem tickEmitsExactlyOneBlock : Obligations.TickEmitsExactlyOneBlock := by
  unfold Obligations.TickEmitsExactlyOneBlock
  intro now s
  obtain ⟨ph, v, st, fc, fs, block, run, length⟩ := tickWith_frame Config.blockSize Config.numTan now s
  refine ⟨_, exec_tick now s, ?_⟩
  rw [run, tickControl_frame]
  exact ⟨⟨block, rfl, length⟩, rfl, rfl, adopt_faults s, rfl, rfl, rfl, rfl, rfl, rfl, rfl, rfl⟩

/-- A block is one sample after another, each with the same increment (R249). -/
theorem samplesWith_eq_foldl (tan : F32 → F32) (dt : F32) (n : Nat) (s : State) :
    samplesWith tan dt n s = (List.replicate n dt).foldl (fun u d => sampleWith tan d u) s := by
  induction n generalizing s with
  | zero => rfl
  | succ n ih => rw [samplesWith, ih, List.replicate_succ, List.foldl_cons]

theorem chooseNote_empty {now : U32} {s : State} (empty : s.trkLen = 0) : chooseNote now s = emptyVoice s := if_pos empty

theorem chooseNote_held {now : U32} {s : State} (held : s.trkLen ≠ 0) :
    chooseNote now s = retrigger (selectNote now s).1 (selectNote now s).2 := if_neg held

/-- Steps 1, 2 and 4 of a tick return nothing to the model's `result`. -/
theorem selectNote_drain_adopt_result (now : U32) (s : State) :
    (selectNote now (drain (adopt s))).2.result = s.result := by
  rw [selectNote_frame, drain_frame, adopt_frame]

/-- Settles O39: the steps are those `tickControl` composes, and the block folds SAMPLE over equal increments. -/
theorem tickIsTheSequenceOfItsSteps : Obligations.TickIsTheSequenceOfItsSteps := by
  unfold Obligations.TickIsTheSequenceOfItsSteps
  intro now s
  refine ⟨_, _, chooseNote now (drain (adopt s)), _, _, exec_adopt s, exec_drain _, fun empty => ?_, fun held => ?_,
    exec_setRatesStep _, exec_dt _ _, ?_⟩
  · rw [exec_emptyVoice, chooseNote_empty empty]
  · refine ⟨_, _, exec_selectNote now _, rfl, ?_⟩
    rw [← selectNote_drain_adopt_result now s, exec_retrigger, chooseNote_held held]
  · rw [foldl_next fun u d => exec_sample d u]
    exact congrArg Host.Outcome.next (samplesWith_eq_foldl ..).symm

/-- With no note held steps 1 to 6 clear the arpeggiator (R245). -/
theorem tickControl_empty {now : U32} {s : State} (empty : (drain (adopt s)).trkLen = 0) :
    (tickControl now s).arpActive = false ∧ (tickControl now s).arpCounter = 0 ∧ (tickControl now s).arpLastMs = 0 := by
  rw [tickControl, chooseNote_empty empty, emptyVoice_frame]
  exact ⟨rfl, rfl, rfl⟩

/-- With notes held and no arpeggiator steps 1 to 6 select the first note (R246). -/
theorem tickControl_plain {now : U32} {s : State} (disabled : (adopt s).cfgActive.arp.en = false)
    (held : (drain (adopt s)).trkLen ≠ 0) : (tickControl now s).voiceNote = (drain (adopt s)).trkSlot[0] := by
  have config : (drain (adopt s)).cfgActive = (adopt s).cfgActive := by rw [drain_frame]
  rw [← config] at disabled
  rw [tickControl_voiceNote, if_neg held, selectNote_plain disabled, trkMostRecent]

/-- Settles O40: steps 3 to 5 settle the voice, and the samples leave it alone. -/
theorem tickSettlesTheVoice : Obligations.TickSettlesTheVoice := by
  unfold Obligations.TickSettlesTheVoice
  intro now s
  obtain ⟨ph, v, st, fc, fs, block, run, -⟩ := tickWith_frame Config.blockSize Config.numTan now s
  have len : (tickControl now s).trkLen = (drain (adopt s)).trkLen := by rw [tickControl_frame]
  have slots : (tickControl now s).trkSlot = (drain (adopt s)).trkSlot := by rw [tickControl_frame]
  refine ⟨_, exec_tick now s, ?_⟩
  rw [run]
  dsimp only
  rw [len, slots, tickControl_cfg, tickControl_voiceEn, decide_eq_true_iff]
  exact ⟨Iff.rfl, tickControl_plain, tickControl_empty⟩

/-! ## The configuration registers -/

/-- Settles O42: a write is `stageWrite`, whose mask evaluates at each word; a read is `hostRead` of the word. -/
theorem stagingWordsStoreTheirDefinedBitsAndReadBack : Obligations.StagingWordsStoreTheirDefinedBitsAndReadBack := by
  unfold Obligations.StagingWordsStoreTheirDefinedBitsAndReadBack
  refine ⟨fun v s => ?_, fun s => ?_⟩
  · and_intros <;> rfl
  · and_intros <;> rfl

/-! The words of R100 that hold more than one field, or a boolean. -/

theorem boolWord_eq_ofNat (b : Bool) : boolWord b = BitVec.ofNat 32 b.toNat := by cases b <;> rfl

theorem oscCtrlWord_eq_ofNat (c : OscCfg) : oscCtrlWord c = BitVec.ofNat 32 (c.en.toNat + 2 * c.wave.toNat) := by
  have hen := c.en.toNat_lt
  apply BitVec.eq_of_toNat_eq
  rw [oscCtrlWord, append_toNat, append_toNat, ofBool_toNat, BitVec.toNat_zero, BitVec.toNat_ofNat]
  omega

theorem filtCtrlWord_eq_ofNat (c : FiltCfg) :
    filtCtrlWord c = BitVec.ofNat 32 (c.en.toNat + 2 * c.contourEn.toNat) := by
  have hen := c.en.toNat_lt
  have hcontour := c.contourEn.toNat_lt
  apply BitVec.eq_of_toNat_eq
  rw [filtCtrlWord, append_toNat, append_toNat, ofBool_toNat, ofBool_toNat, BitVec.toNat_zero, BitVec.toNat_ofNat]
  omega

/-- Settles O43: a read is `hostRead` of the word of `encodeCfg`, and the control words are the sums of their fields. -/
theorem activeReadsReturnTheEncodedConfiguration : Obligations.ActiveReadsReturnTheEncodedConfiguration := by
  unfold Obligations.ActiveReadsReturnTheEncodedConfiguration
  intro s
  simp only [← boolWord_eq_ofNat, ← oscCtrlWord_eq_ofNat, ← filtCtrlWord_eq_ofNat]
  and_intros <;> rfl

/-- A tick leaves the configuration that ADOPT chose (R242). -/
theorem tickWith_cfgActive (n : Nat) (tan : F32 → F32) (now : U32) (s : State) :
    (tickWith n tan now s).cfgActive = (adopt s).cfgActive := by
  obtain ⟨ph, v, st, fc, fs, block, run, -⟩ := tickWith_frame n tan now s
  rw [run]
  exact tickControl_cfg now s

/-- A legal configuration just committed is the one the next ADOPT takes. -/
theorem adopt_commit_cfgActive {s : State} (legality : legal (decodeCfg s.cfgStage) = true) :
    (adopt (hostWrote (commit s))).cfgActive = decodeCfg s.cfgStage := by
  have pending : (hostWrote (commit s)).mboxPending = true := rfl
  have slot : (hostWrote (commit s)).mboxSlot = decodeCfg s.cfgStage := rfl
  rw [adopt_legal pending (slot ▸ legality), slot]

/-- Settles O48: the tick adopts what the commit decoded, and encoding it back loses no defined bit. -/
theorem committedConfigurationReadsBackAfterATick : Obligations.CommittedConfigurationReadsBackAfterATick := by
  unfold Obligations.CommittedConfigurationReadsBackAfterATick
  intro v now s
  refine ⟨hostWrote (commit s), exec_wrCfgCommit v s, rfl, fun reservedZero legality => ?_⟩
  refine ⟨_, exec_tick now _, fun k => ?_⟩
  rw [tickWith_cfgActive, adopt_commit_cfgActive legality]
  exact (encodeCfg_decodeCfg s.cfgStage k).trans (reservedZero k)

/-! ## The event port -/

/-- Settles O47: a push by whether there is room, a status write by bit 16. -/
theorem eventPushAndOverflowFlag : Obligations.EventPushAndOverflowFlag := by
  unfold Obligations.EventPushAndOverflowFlag
  intro v s
  refine ⟨fun room => ?_, fun full => ?_, fun bitSet => ?_, fun bitClear => ?_⟩
  · rw [exec_wrEvtPush, evtPush_room room, hostWrote]
  · rw [exec_wrEvtPush, evtPush_full full, hostWrote]
  · rw [exec_wrEvtStatus, evtStatusWrite_set bitSet, hostWrote]
  · rw [exec_wrEvtStatus, evtStatusWrite_clear bitClear, hostWrote]

end Sys2Proof.Machine

/-! PROOFS. Exceptions and reset (60_exceptions.md R280 to R281, 70_reset_and_hazards.md R300, R301): every step completes
and keeps the fault records and the output, and what the register window reads, in any state and after reset. The
obligations O60, O53 and O54 put together from that. -/

namespace Sys2Proof.Machine

/-! ## Every frame completes -/

/-- An access of any kind: an aligned one is accepted, any other is recorded as BusError (R71). -/
theorem exec_access_completes (a : HostAccess) (s : State) : ∃ t, exec (decode (.access a)) s = .next t := by
  cases legality : a.isLegal with
  | false => exact ⟨hostBusError a s, congrArg (exec · s) (decode_illegal legality)⟩
  | true =>
    cases a with
    | read addr size =>
      have accepted : decode (.access (.read addr size)) = decodeRead addr := if_pos legality
      rw [accepted]
      obtain ⟨d, run, -⟩ := decodeRead_exec addr s
      exact ⟨_, run⟩
    | write addr size v =>
      have accepted : decode (.access (.write addr size v)) = decodeWrite addr v := if_pos legality
      rw [accepted]
      obtain ⟨_, _, _, _, _, _, run, -⟩ := decodeWrite_exec addr v s
      exact ⟨_, run⟩

/-- No frame stops the VE (R280). -/
theorem exec_decode_completes (f : Frame) (s : State) : ∃ t, exec (decode f) s = .next t := by
  cases f with
  | access a => exact exec_access_completes a s
  | tick now => exact ⟨_, exec_tick now s⟩
  | event w => exact ⟨_, exec_event w s⟩
  | wave ctrl p =>
    obtain ⟨r, run⟩ := exec_wave ctrl p s
    exact ⟨_, run⟩

theorem step_completes (s : State) : ∃ t, step s = .next t := by
  unfold step
  cases fetchFrame s with
  | none => exact ⟨s, rfl⟩
  | some fetched => exact exec_decode_completes fetched.1 fetched.2

/-! ## Records are sticky -/

/-- From `s` to `t` no fault record and no sample is lost, and at most one fault is recorded (R46, R47, R281). -/
def RecordsKept (s t : State) : Prop :=
  (∃ rs : List FaultRecord, t.faults = s.faults ++ rs ∧ rs.length ≤ 1) ∧ ∃ xs : List F32, t.out = s.out ++ xs

theorem RecordsKept.of_eq {s t : State} (faults : t.faults = s.faults) (out : t.out = s.out) : RecordsKept s t :=
  ⟨⟨[], by rw [faults, List.append_nil], Nat.zero_le 1⟩, [], by rw [out, List.append_nil]⟩

/-- A bad access leaves its one record. -/
theorem hostBusError_records (a : HostAccess) (s : State) : RecordsKept s (hostBusError a s) := by
  cases a <;> exact ⟨⟨[_], rfl, Nat.le_refl 1⟩, [], (List.append_nil _).symm⟩

/-- A tick records what ADOPT rejects and emits its block. -/
theorem tickWith_records (n : Nat) (tan : F32 → F32) (now : U32) (s : State) :
    RecordsKept s (tickWith n tan now s) := by
  obtain ⟨ph, v, st, fc, fs, block, run, -⟩ := tickWith_frame n tan now s
  rw [run, tickControl_frame]
  exact ⟨adopt_faults s, block, rfl⟩

theorem step_records {s t : State} (h : step s = .next t) : RecordsKept s t := by
  obtain ⟨-, rfl⟩ | ⟨f, rest, -, tick | event | wave | badAccess | read | write⟩ := step_cases h
  · exact .of_eq rfl rfl
  · obtain ⟨now, rfl⟩ := tick
    exact tickWith_records _ _ now { s with inbox := rest }
  · obtain ⟨w, rfl⟩ := event
    rw [applyEvent_frame]
    exact .of_eq rfl rfl
  · obtain ⟨r, rfl⟩ := wave
    exact .of_eq rfl rfl
  · obtain ⟨a, rfl⟩ := badAccess
    exact hostBusError_records a { s with inbox := rest }
  · obtain ⟨d, rfl⟩ := read
    exact .of_eq rfl rfl
  · obtain ⟨stage, slot, pending, q, ovf, arg, rfl, -, -⟩ := write
    exact .of_eq rfl rfl

/-- Settles O60: every frame has a next state, and only a bad access and a tick add to the records. -/
theorem stepAlwaysCompletesAndRecordsAreSticky : Obligations.StepAlwaysCompletesAndRecordsAreSticky := by
  unfold Obligations.StepAlwaysCompletesAndRecordsAreSticky
  intro s
  obtain ⟨t, run⟩ := step_completes s
  exact ⟨t, run, step_records run⟩

/-! ## The state after reset -/

/-- R101 lists the image of RESET_CONFIG. -/
theorem encodeCfg_resetConfig : encodeCfg resetConfig = resetStage := by decide

/-- The rates R300 lists are those of the durations of RESET_CONFIG (R190). -/
theorem envRate_resetConfig : envRate resetConfig.env.attack = 0x3B149B93 ∧ envRate resetConfig.env.decay = 0x396DC5B8 ∧
    envRate resetConfig.env.release = 0x38EDC5B8 := by decide

theorem envSetRates_reset : envSetRates resetConfig.env State.reset = State.reset := by
  obtain ⟨attack, decay, release⟩ := envRate_resetConfig
  rw [envSetRates, attack, decay, release]
  rfl

/-- Settles O53: the elements as `State.reset` gives them; the image, the legality and the rates are computed. -/
theorem resetSetsEveryElement : Obligations.ResetSetsEveryElement := by
  unfold Obligations.ResetSetsEveryElement
  obtain ⟨-, -, -, -, legality, -⟩ := reset_controlOk
  exact ⟨rfl, rfl, rfl, rfl, rfl, rfl, rfl, rfl, rfl, rfl, rfl, rfl, rfl, rfl, rfl, rfl, rfl, rfl, rfl, rfl, rfl, rfl, rfl,
    rfl, encodeCfg_resetConfig.symm, legality, envSetRates_reset⟩

/-! ## What the register window reads -/

/-- An aligned 4-byte read of `addr` completes without error and returns `v`. -/
abbrev ReadsAs (s : State) (addr : Offset) (v : U32) : Prop :=
  exec (decode (.access (.read addr 4))) s = .next (hostRead v s)

theorem ReadsAs.answer {s : State} {addr : Offset} {v : U32} (h : ReadsAs s addr v) :
    ∃ t, exec (decode (.access (.read addr 4))) s = .next t ∧ t.hostErr = false ∧ t.hostData = v :=
  ⟨_, h, rfl, rfl⟩

/-- CFG_STAGE (R253): word `k` is at offset `4 * k`. -/
theorem readsAs_stage (s : State) (k : Fin 22) : ReadsAs s (BitVec.ofNat 9 (0x000 + 4 * k.val)) (s.cfgStage[k]) := by
  fin_cases k <;> rfl

/-- CFG_ACTIVE (R253): word `k` is at offset `0x100 + 4 * k`. -/
theorem readsAs_active (s : State) (k : Fin 22) :
    ReadsAs s (BitVec.ofNat 9 (0x100 + 4 * k.val)) ((encodeCfg s.cfgActive)[k]) := by
  fin_cases k <;> rfl

/-- The control and status registers in the order of R75, with what a read of each returns (R106 to R112). -/
def controlRegisters (s : State) : List (Offset × U32) :=
  [(0x080, 0), (0x084, mboxStatus s), (0x088, 0), (0x08C, evtStatusReg s), (0x090, voiceStatus s), (0x094, s.envValue),
   (0x098, s.arpCounter), (0x09C, s.arpLastMs), (0x0A0, trkSlots0 s), (0x0A4, trkSlots1 s), (0x0A8, trkQuery s),
   (0x0AC, s.oscPhase[0]), (0x0B0, s.oscPhase[1]), (0x0B4, s.oscPhase[2]), (0x0B8, s.filtS), (0x0BC, s.filtFc),
   (0x0C0, s.envArate), (0x0C4, s.envDrate), (0x0C8, s.envRrate), (0x0CC, s.envSus)]

theorem readsAs_controlRegisters (s : State) : ∀ p ∈ controlRegisters s, ReadsAs s p.1 p.2 := by
  simp only [controlRegisters, List.forall_mem_cons, List.not_mem_nil, false_imp_iff, implies_true, and_true]
  and_intros <;> rfl

/-- The values R301 lists. -/
theorem controlRegisters_reset : controlRegisters State.reset =
    [(0x080, 0), (0x084, 0), (0x088, 0), (0x08C, 0), (0x090, 0x0000FF00), (0x094, 0),
     (0x098, 0), (0x09C, 0), (0x0A0, 0xFFFFFFFF), (0x0A4, 0x000000FF), (0x0A8, 0xFFFFFFFF),
     (0x0AC, 0), (0x0B0, 0), (0x0B4, 0), (0x0B8, 0), (0x0BC, 0x469C4000),
     (0x0C0, 0x3B149B93), (0x0C4, 0x396DC5B8), (0x0C8, 0x38EDC5B8), (0x0CC, 0x3F333333)] := by decide

theorem readsAs_reserved (s : State) {addr : Offset} (h : reservedOffset addr = true) : ReadsAs s addr 0 := by
  rw [ReadsAs, decode_read (reservedOffset_aligned h), decodeRead_reserved h]
  rfl

/-- Settles O54: both images are the one of R101, the status words are computed from the reset state, and a reserved
offset reads 0 in every state. -/
theorem resetReadsAreTheListedValues : Obligations.ResetReadsAreTheListedValues := by
  unfold Obligations.ResetReadsAreTheListedValues
  refine ⟨fun k base hbase => ?_, fun p hp => ?_, fun addr _ reserved => (readsAs_reserved _ reserved).answer⟩
  · obtain rfl | rfl : base = 0x000 ∨ base = 0x100 := by simpa using hbase
    · exact (readsAs_stage State.reset k).answer
    · have active := readsAs_active State.reset k
      have image : encodeCfg State.reset.cfgActive = resetStage := encodeCfg_resetConfig
      rw [image] at active
      exact active.answer
  · have listed : p ∈ controlRegisters State.reset := controlRegisters_reset ▸ hp
    exact (readsAs_controlRegisters State.reset p listed).answer

end Sys2Proof.Machine
